-- ==== Sys2Proof/Word.lean ====
section
/-! DEFINITION. The word types of the Ring-FIFO Audio Streamer (spec 00_scope.md R8). -/

namespace Sys2Proof

/-- A 32-bit register, counter or command word (R8). -/
abbrev Word := BitVec 32

/-- One byte of host memory (20_memory.md R38). -/
abbrev Byte := BitVec 8

/-- A 32-bit byte address: of the host's bus or of host memory (R37). -/
abbrev Addr := BitVec 32

/-- A frame: one 32-bit word holding two 16-bit samples (R8, R39). -/
abbrev Frame := BitVec 32

/-- One 16-bit two's-complement sample (R8). -/
abbrev Sample := BitVec 16

end Sys2Proof
end

