-- ==== Sys2Proof/Machine/Input.lean ====
section
/-! DEFINITION. The named alternatives the state is made of, and the inputs of a step. -/

namespace Sys2Proof.Machine

/-- The scheduler's states (10_state.md R18). -/
inductive SchedState where
  /-- No successful INIT since reset. -/
  | uninit
  /-- Initialised, no transfer armed. -/
  | idle
  /-- One slot active in the transfer engine, the other idle. -/
  | streaming
  /-- Explicitly halted. -/
  | stopped
deriving DecidableEq, Repr

/-- One of the two transfer slots, numbered 0 and 1 (00_scope.md R13). -/
inductive SlotId where
  | zero
  | one
deriving DecidableEq, Repr

/-- The outcomes of a command, STATUS.ERR (60_exceptions.md R94). Codes 7 to 15 are never produced, so
they have no constructor. -/
inductive ErrCode where
  | ok
  | cfgFormat
  | cfgReinit
  | cfgRate
  | cfgResource
  | notInit
  | illegalCmd
deriving DecidableEq, Repr

/-- What can happen to the block in one step: the steps of 20_memory.md R47 (host CSR accesses, BEAT,
COMPLETE, SERVICE), the reset input (70_reset_and_hazards.md R110) and a change of host memory, which is
an environment input (20_memory.md R38). The step reads one input; `State.inputs` holds the total order of
those to come. -/
inductive Input where
  /-- The host reads `size` bytes at bus address `addr` (44_stats_and_bus.md R91). -/
  | busRead (addr : Addr) (size : Nat)
  /-- The host writes `size` bytes of `data` at bus address `addr` (R92). -/
  | busWrite (addr : Addr) (size : Nat) (data : Word)
  /-- The transfer engine is ready to move one frame (42_scheduler.md R75). -/
  | beat
  /-- The transfer engine is ready to raise the completion signal (R76). -/
  | complete
  /-- The arbiter is ready to service a completion (R77). -/
  | service
  /-- The reset input (R110). -/
  | reset
  /-- One byte of host memory changes (R38; log 8). -/
  | hostStore (addr : Addr) (value : Byte)
deriving DecidableEq, Repr, Inhabited

end Sys2Proof.Machine
end

