-- ==== Sys2Proof/Config.lean ====
section
/-! DEFINITION. The implementation parameters of 00_scope.md R6 and the values the spec leaves free. -/

namespace Sys2Proof.Config

/-- The parameters of R6 that an implementation chooses. They are configuration: `State.params` carries
them because the host's interface gives `step` no other argument, and no step changes them (log 1). -/
structure Params where
  /-- `C`, ring capacity in frames. -/
  c : Nat
  /-- `Q`, frames per transfer and per slot. -/
  q : Nat
  /-- `SYS_CLK_HZ`, the signal generator's source clock in Hz. -/
  sysClkHz : Nat
  /-- `EDGE_FACTOR`, generator ticks per bit-clock edge. -/
  edgeFactor : Nat
  /-- `DEST`, the transfer destination: an opaque token. -/
  dest : Nat
  /-- `PIN_ASSIGNMENT`, handed to the signal generator: an opaque token. -/
  pinAssignment : Nat
  /-- `CSR_BASE`, the bus address of the CSR window. -/
  csrBase : Addr
deriving DecidableEq, Repr

/-- The parameters of the machine that `State.reset` describes: the defaults of R6 for `C`, `Q` and
`EDGE_FACTOR`, the reference value of R6 for the OPEN `SYS_CLK_HZ`, and 0 for the OPEN `CSR_BASE` and the
opaque `DEST` and `PIN_ASSIGNMENT` (DESIGN CHOICE, log 1). -/
def reference : Params :=
  { c := 512, q := 256, sysClkHz := 150000000, edgeFactor := 2, dest := 0, pinAssignment := 0, csrBase := 0 }

/-- `FRAME_BITS` (R6, fixed). -/
abbrev frameBits : Nat := 32

/-- `BITS_PER_SAMPLE_SUPPORTED` (R6, fixed). -/
abbrev bitsPerSample : Nat := 16

/-- `CHANNELS_SUPPORTED` (R6, fixed). -/
abbrev channels : Nat := 2

/-- FREE VALUE. `claim_ok`, the environment's answer to INIT's resource claim, at the n-th draw (43_configurator.md
R88, I6). No law is put on it (log 4). -/
opaque claimOk : Nat → Bool

/-- FREE VALUE. What the n-th draw leaves in entry `i` of RING after a reset in a run (10_state.md R36, I5; log 3). -/
opaque ringAtReset : Nat → Nat → Frame

/-- FREE VALUE. What the n-th draw leaves in entry `i` of a slot after a reset in a run (R36, I5; log 3). -/
opaque slotAtReset : Nat → Machine.SlotId → Nat → Frame

/-- FREE VALUE. The input that comes next where the run's own list of inputs is empty, at the n-th draw: the order
of the agents' steps is free (20_memory.md R47, I7; log 5). -/
opaque arrival : Nat → Machine.Input

end Sys2Proof.Config
end

