-- ==== Sys2Proof/Syntax.lean ====
section
/-! DEFINITION. The commands of the block: one constructor per row of spec/opcode_table.json. -/

namespace Sys2Proof

/-- The eight commands (30_encoding.md R59). No command has an operand field: operands are the
registers ARG0 to ARG2 at the CMD write (R61). Words that decode to no command are no constructor
here; `DecodeError` of Decode.lean names them and `execute` of Machine/Bus.lean runs them (R93). -/
inductive Instr where
  /-- INIT, 0x1 (R83). -/
  | init
  /-- WRITE, 0x2 (R67). -/
  | write
  /-- START, 0x3 (R72). -/
  | start
  /-- STOP, 0x4 (R73). -/
  | stop
  /-- CLEAR, 0x5 (R74). -/
  | clear
  /-- GET_FREE_SPACE, 0x6 (R69). -/
  | getFreeSpace
  /-- GET_BUFFERED_COUNT, 0x7 (R70). -/
  | getBufferedCount
  /-- GET_STATS, 0x8 (R90). -/
  | getStats
deriving DecidableEq, Repr

end Sys2Proof
end

