-- ==== Sys2Proof/WellFormed.lean ====
section
/-! DEFINITION. Which commands, command words and parameter sets the spec admits. (Which CSR accesses it
admits is `csrOffset` of Machine/Bus.lean.) -/

namespace Sys2Proof

/-- Every command is well-formed: no constructor has an operand (30_encoding.md R58, R61). -/
def Instr.wf : Instr → Bool
  | .init => true
  | .write => true
  | .start => true
  | .stop => true
  | .clear => true
  | .getFreeSpace => true
  | .getBufferedCount => true
  | .getStats => true

/-- A command word is well-formed when its reserved field is 0 and its OPC is one of the eight of R59; every
other word is illegal (R58, R63). -/
def commandWordWf (w : Word) : Bool :=
  decide (w.extractLsb' 4 28 = 0) && decide (1 ≤ (w.extractLsb' 0 4).toNat) &&
    decide ((w.extractLsb' 0 4).toNat ≤ 8)

/-- The constraints on the parameters (00_scope.md R7). -/
def Config.Params.wf (p : Config.Params) : Bool :=
  decide (1 ≤ p.q) && decide (p.q ≤ p.c) && decide (p.c ≤ 2 ^ 31 - 1) &&
    decide (1 ≤ p.edgeFactor) && decide (p.edgeFactor ≤ 2 ^ 16 - 1) &&
    decide (1 ≤ p.sysClkHz) && decide (p.sysClkHz ≤ 2 ^ 32 - 1)

end Sys2Proof
end

