-- ==== Sys2Proof/Decode.lean ====
section
/-! DEFINITION. Decoding and encoding of command words (30_encoding.md R58 to R60). -/

namespace Sys2Proof

/-- Why a word is ILLEGAL (R63). The block treats both alike (44_stats_and_bus.md R93). -/
inductive DecodeError where
  /-- `w[31:4] != 0`. -/
  | reservedBits
  /-- OPC is 0x0 or 0x9 to 0xF. -/
  | reservedOpcode
deriving DecidableEq, Repr

/-- Field OPC, bits [3:0] (R58). -/
abbrev opcField (w : Word) : BitVec 4 := w.extractLsb' 0 4

/-- Field RSVD, bits [31:4] (R58). -/
abbrev rsvdField (w : Word) : BitVec 28 := w.extractLsb' 4 28

/-- The opcode map (R59). -/
def decodeOpc (opc : Nat) : Except DecodeError Instr :=
  match opc with
  | 0x1 => .ok .init
  | 0x2 => .ok .write
  | 0x3 => .ok .start
  | 0x4 => .ok .stop
  | 0x5 => .ok .clear
  | 0x6 => .ok .getFreeSpace
  | 0x7 => .ok .getBufferedCount
  | 0x8 => .ok .getStats
  | _ => .error .reservedOpcode

/-- Decoding, total on all `2^32` words (R60). -/
def decode (w : Word) : Except DecodeError Instr :=
  if rsvdField w = 0 then decodeOpc (opcField w).toNat else .error .reservedBits

/-- OPC of each command (R59). -/
def opcOf : Instr → BitVec 4
  | .init => 0x1
  | .write => 0x2
  | .start => 0x3
  | .stop => 0x4
  | .clear => 0x5
  | .getFreeSpace => 0x6
  | .getBufferedCount => 0x7
  | .getStats => 0x8

/-- The command word: RSVD = 0 above OPC (R58). -/
def encode (i : Instr) : Word := (0 : BitVec 28) ++ opcOf i

/-- The row's instruction read by `decode` from the low `nbits` bits of `w`. A command is one 32-bit value written
to CMD (R57), never bytes in a memory, so no byte order enters. -/
def decodeTableWord (nbits w : Nat) : Option Instr :=
  if w % 2 ^ nbits < 2 ^ 32 then
    match decode (BitVec.ofNat 32 (w % 2 ^ nbits)) with
    | .ok i => some i
    | .error _ => none
  else none

end Sys2Proof
end

