-- ==== Sys2Proof/Machine/State.lean ====
section
/-! DEFINITION. The state of the block and of its environment, the ways a step can stop, and reset. -/

namespace Sys2Proof.Machine

/-- Host memory: (address, byte) pairs in the canonical form of `Memory.wf` (Machine/Ops.lean). -/
abbrev Memory := List Host.Cell

/-- The machine's state: the elements of 10_state.md R14 under their own names, then host memory, then the model's
own fields. -/
structure State where
  /-- The parameters of 00_scope.md R6: configuration no step changes (log 1). -/
  params : Config.Params
  /-- `st.state` (R18). -/
  state : SchedState
  /-- `st.playing` (R19). -/
  playing : Bool
  /-- `RING[0..C-1]` (R22). -/
  ring : List Frame
  /-- `st.widx`, in `0..C-1`. -/
  widx : Nat
  /-- `st.ridx`, in `0..C-1`. -/
  ridx : Nat
  /-- `st.count`, in `0..C` (R32). -/
  count : Nat
  /-- `SLOT[0][0..Q-1]` (R23). -/
  slot0 : List Frame
  /-- `SLOT[1][0..Q-1]` (R23). -/
  slot1 : List Frame
  /-- `st.active` (R24). -/
  active : SlotId
  /-- `st.armed` (R25). -/
  armed : Bool
  /-- `st.xfer_pos`, in `0..Q` (R26). -/
  xferPos : Nat
  /-- `st.pending` (R27). -/
  pending : Bool
  /-- `st.clk_en` (R28). -/
  clkEn : Bool
  /-- `st.irq_en` (R29). -/
  irqEn : Bool
  /-- `st.underrun` (R30). -/
  underrun : Word
  /-- `st.overrun` (R30). -/
  overrun : Word
  /-- `st.sample_rate` (R31). -/
  sampleRate : Word
  /-- `st.bclk_hz` (R31). -/
  bclkHz : Word
  /-- `st.div_int` (R31). -/
  divInt : BitVec 16
  /-- `st.div_frac` (R31). -/
  divFrac : BitVec 8
  /-- `csr[ARG0]` (R15). -/
  arg0 : Word
  /-- `csr[ARG1]` (R15). -/
  arg1 : Word
  /-- `csr[ARG2]` (R15). -/
  arg2 : Word
  /-- `csr[RESULT0]` (R16). -/
  result0 : Word
  /-- `csr[RESULT1]` (R16). -/
  result1 : Word
  /-- `st.err` (60_exceptions.md R94). -/
  err : ErrCode
  /-- `OUT`, the frames delivered to `DEST`, oldest first (20_memory.md R45). -/
  out : List Frame
  /-- Host memory, an environment input (20_memory.md R38). -/
  hostMem : Memory
  /-- The model's own: the steps to come that the run fixes, next first (R47; log 5). -/
  inputs : List Input
  /-- The model's own: the answers to INIT's resource claim that the run fixes, next first (R88; log 4). -/
  claims : List Bool
  /-- The model's own: how many free values have been drawn (log 4). -/
  draws : Nat
  /-- The model's own: the value the last CSR read returned to the host (R91; log 9). -/
  readData : Word
deriving DecidableEq, Repr

/-- The faults of the machine: none. No event stops the block: errors are outcomes of commands, after which it goes
on (60_exceptions.md R94, R95), and SERVICE cannot fail (42_scheduler.md R78). -/
inductive Fault where
deriving DecidableEq, Repr

/-- Why the model gives a step no meaning. -/
inductive Refusal where
  /-- Raised by an arm of `exec` for a command without a meaning yet. Safe: nothing can be proved of it. No arm
  raises it. -/
  | notModelled (mnemonic : String)
  /-- Raised by a host access to the block that is not an aligned 32-bit access of the CSR window, as
  20_memory.md R41 asks. Safe: nothing can be proved of what a real bus does. -/
  | csrAccess
  /-- Raised by every step of a machine whose parameters break 00_scope.md R7, as R7 asks. Safe. -/
  | parameters
deriving DecidableEq, Repr

/-- The state right after the power-on reset of a machine with parameters `p` (10_state.md R36). RING and SLOT are
unspecified there: this state names silence (DESIGN CHOICE, log 2). Host memory lists nothing (log 7), no input and
no claim answer is fixed (log 4, log 5). -/
def State.powerOn (p : Config.Params) : State :=
  { params := p
    state := .uninit
    playing := false
    ring := List.replicate p.c 0
    widx := 0
    ridx := 0
    count := 0
    slot0 := List.replicate p.q 0
    slot1 := List.replicate p.q 0
    active := .zero
    armed := false
    xferPos := 0
    pending := false
    clkEn := false
    irqEn := false
    underrun := 0
    overrun := 0
    sampleRate := 0
    bclkHz := 0
    divInt := 0
    divFrac := 0
    arg0 := 0
    arg1 := 0
    arg2 := 0
    result0 := 0
    result1 := 0
    err := .ok
    out := []
    hostMem := []
    inputs := []
    claims := []
    draws := 0
    readData := 0 }

/-- The machine right after reset, with the reference parameters (log 1). -/
def State.reset : State := State.powerOn Config.reference

end Sys2Proof.Machine
end

