-- ==== Sys2Proof/Machine/Ops.lean ====
section
/-! DEFINITION. The named operations over host memory, the ring, the slots, the outcome registers and the model's
free values. -/

namespace Sys2Proof.Machine

/-! ### Host memory -/

/-- What a byte of host memory that is not listed reads as (DESIGN CHOICE, log 7). -/
def unlistedByte : Byte := 0

/-- The byte of host memory at `a` (20_memory.md R38). -/
def Memory.read : Memory → Nat → Byte
  | [], _ => unlistedByte
  | (b, v) :: rest, a => if b = a then v else Memory.read rest a

/-- Host memory with byte `v` at `a`, in canonical form. -/
def Memory.write : Memory → Nat → Byte → Memory
  | [], a, v => if v = unlistedByte then [] else [(a, v)]
  | (b, w) :: rest, a, v =>
    if b < a then (b, w) :: Memory.write rest a v
    else if b = a then (if v = unlistedByte then rest else (a, v) :: rest)
    else if v = unlistedByte then (b, w) :: rest else (a, v) :: (b, w) :: rest

/-- The canonical form from address `lo` on: addresses rise strictly, lie in the `2^32` bytes of R37, and no entry
holds what an unlisted byte reads as. -/
def Memory.wfFrom : Nat → Memory → Bool
  | _, [] => true
  | lo, (a, v) :: rest =>
    decide (lo ≤ a) && decide (a < 2 ^ 32) && decide (v ≠ unlistedByte) && Memory.wfFrom (a + 1) rest

/-- The canonical form of host memory. -/
def Memory.wf (m : Memory) : Bool := Memory.wfFrom 0 m

/-- A frame from its four bytes, lowest address first (R38, R39). -/
def frameOfBytes (b0 b1 b2 b3 : Byte) : Frame := b3 ++ b2 ++ b1 ++ b0

/-- `MemRead(a, 4)`: a frame of host memory, little-endian (R38). Byte addresses wrap modulo `2^32`. -/
def memRead (m : Memory) (a : Addr) : Frame :=
  frameOfBytes (m.read a.toNat) (m.read (a + 1).toNat) (m.read (a + 2).toNat) (m.read (a + 3).toNat)

/-! ### Frames -/

/-- Silence: both samples zero (00_scope.md R13). -/
abbrev silence : Frame := 0

/-- The left sample, `f[15:0]` (20_memory.md R39). -/
def leftSample (f : Frame) : Sample := f.extractLsb' 0 16

/-- The right sample, `f[31:16]` (R39). -/
def rightSample (f : Frame) : Sample := f.extractLsb' 16 16

/-- `n` frames of silence. -/
def silentFrames (n : Nat) : List Frame := List.replicate n silence

/-- `frames`, with the remainder up to `n` padded with silence (42_scheduler.md R72). -/
def padWithSilence (n : Nat) (frames : List Frame) : List Frame :=
  frames ++ silentFrames (n - frames.length)

/-! ### The ring -/

/-- `RING[i mod C]` (10_state.md R22). Every index is in range where the ring holds `C` frames (log 13). -/
def ringRead (s : State) (i : Nat) : Frame := s.ring.getD (i % s.params.c) silence

/-- Free space in frames, `C - st.count` (41_ring_buffer.md R67). -/
def freeSpace (s : State) : Nat := s.params.c - s.count

/-- The frames in the ring, oldest first (10_state.md R33). -/
def buffered (s : State) : List Frame := (List.range s.count).map fun k => ringRead s (s.ridx + k)

/-- `RING[(at + i) mod C] <- frames[i]` for every `i`, in ascending `i` (R67). -/
def writeRing (c : Nat) (ring : List Frame) (at' : Nat) : List Frame → List Frame
  | [] => ring
  | f :: fs => writeRing c (ring.set (at' % c) f) (at' + 1) fs

/-- How many frames `drain(n)` takes (41_ring_buffer.md R71). -/
def drainCount (n : Nat) (s : State) : Nat := min n s.count

/-- The frames `drain(n)` returns, in insertion order (R71). -/
def drainFrames (n : Nat) (s : State) : List Frame :=
  (List.range (drainCount n s)).map fun i => ringRead s (s.ridx + i)

/-- The shortfall `drain(n)` reports (R71). -/
def drainShortfall (n : Nat) (s : State) : Nat := n - drainCount n s

/-- What `drain(n)` writes: `st.ridx` and `st.count` only (R71). -/
def drain (n : Nat) (s : State) : State :=
  { s with
    ridx := (s.ridx + drainCount n s) % s.params.c
    count := s.count - drainCount n s }

/-! ### The slots -/

/-- The other slot: the idle one, of the active one (00_scope.md R13). -/
def otherSlot : SlotId → SlotId
  | .zero => .one
  | .one => .zero

/-- `SLOT[i]` (10_state.md R23). -/
def slotFrames (s : State) : SlotId → List Frame
  | .zero => s.slot0
  | .one => s.slot1

/-- `SLOT[i][*] <- frames`. -/
def setSlot (i : SlotId) (frames : List Frame) (s : State) : State :=
  match i with
  | .zero => { s with slot0 := frames }
  | .one => { s with slot1 := frames }

/-- `SLOT[i][k]` (log 13 for a `k` that no reachable state reads). -/
def slotRead (s : State) (i : SlotId) (k : Nat) : Frame := (slotFrames s i).getD k silence

/-! ### Taking an error, and ending a command -/

/-- `fail(code)`, the one shared way a command takes an error (60_exceptions.md R95, 00_scope.md R10): the outcome and
the results are written and nothing else. -/
def fail (code : ErrCode) (s : State) : State :=
  { s with err := code, result0 := 0, result1 := 0 }

/-- A command's normal end: `csr[RESULT0] <- r0; csr[RESULT1] <- r1; ok()` (R10). There is no return from an error
or from SERVICE beside it: the block has no return instruction (R102). -/
def finish (r0 r1 : Word) (s : State) : State :=
  { s with err := .ok, result0 := r0, result1 := r1 }

/-! ### The scheduler -/

/-- `stop_body()`, shared by STOP and CLEAR (42_scheduler.md R73). -/
def stopBody (s : State) : State :=
  { s with
    armed := false
    xferPos := 0
    pending := false
    clkEn := false
    state := .stopped
    playing := false }

/-- The zeroing shared by CLEAR and INIT: ring, slots, indices and count (R74, 43_configurator.md R83). -/
def zeroBuffers (s : State) : State :=
  { s with
    ring := silentFrames s.params.c
    slot0 := silentFrames s.params.q
    slot1 := silentFrames s.params.q
    widx := 0
    ridx := 0
    count := 0 }

/-- Arm the transfer engine on slot `i` from its first frame (10_state.md R25, R26). -/
def arm (i : SlotId) (s : State) : State :=
  { s with active := i, armed := true, xferPos := 0, pending := false }

/-! ### Free values -/

/-- `claim_ok` at this step: the next answer the run fixes, else a free value (43_configurator.md R88; log 4). -/
def claimAnswer (s : State) : Bool :=
  match s.claims with
  | b :: _ => b
  | [] => Config.claimOk s.draws

/-- The state after the claim has been answered: only the model's own fields change. -/
def consumeClaim (s : State) : State :=
  match s.claims with
  | _ :: rest => { s with claims := rest }
  | [] => { s with draws := s.draws + 1 }

/-- The input of this step: the next one the run fixes, else a free value (20_memory.md R47; log 5). -/
def nextInput (s : State) : Input :=
  match s.inputs with
  | i :: _ => i
  | [] => Config.arrival s.draws

/-- The state after the input has been taken: only the model's own fields change. -/
def consumeInput (s : State) : State :=
  match s.inputs with
  | _ :: rest => { s with inputs := rest }
  | [] => { s with draws := s.draws + 1 }

/-! ### Reset -/

/-- The reset input (70_reset_and_hazards.md R110, 10_state.md R36). RING and SLOT become free values (log 3). OUT,
host memory, the parameters and the model's own fields stay. -/
def resetBlock (s : State) : State :=
  { State.powerOn s.params with
    ring := (List.range s.params.c).map (Config.ringAtReset s.draws)
    slot0 := (List.range s.params.q).map (Config.slotAtReset s.draws .zero)
    slot1 := (List.range s.params.q).map (Config.slotAtReset s.draws .one)
    out := s.out
    hostMem := s.hostMem
    inputs := s.inputs
    claims := s.claims
    draws := s.draws + 1
    readData := s.readData }

end Sys2Proof.Machine
end

