-- ==== Sys2Proof/Machine/Flags.lean ====
section
/-! DEFINITION. Counter arithmetic and the words the read-only registers show. -/

namespace Sys2Proof.Machine

/-- `sat_inc32` (00_scope.md R9, 10_state.md R30). -/
def satInc32 (x : Word) : Word := if x = 0xFFFFFFFF then x else x + 1

/-- STATUS.STATE (10_state.md R18). -/
def stateCode : SchedState → BitVec 2
  | .uninit => 0
  | .idle => 1
  | .streaming => 2
  | .stopped => 3

/-- STATUS.ERR (60_exceptions.md R94). -/
def errBits : ErrCode → BitVec 4
  | .ok => 0
  | .cfgFormat => 1
  | .cfgReinit => 2
  | .cfgRate => 3
  | .cfgResource => 4
  | .notInit => 5
  | .illegalCmd => 6

/-- STATUS.ACTIVE (10_state.md R20, R24). -/
def slotBit : SlotId → BitVec 1
  | .zero => 0
  | .one => 1

/-- One flag of STATUS. -/
def flagBit (b : Bool) : BitVec 1 := BitVec.ofBool b

/-- STATUS (10_state.md R20, 44_stats_and_bus.md R91). -/
def statusWord (s : State) : Word :=
  (0 : BitVec 20) ++ errBits s.err ++ flagBit s.irqEn ++ flagBit s.clkEn ++ flagBit s.pending ++
    flagBit s.armed ++ flagBit s.playing ++ slotBit s.active ++ stateCode s.state

/-- CLKDIV: INT in [31:16], FRAC in [15:8], [7:0] zero (10_state.md R21). -/
def clkdivWord (s : State) : Word := s.divInt ++ s.divFrac ++ (0 : BitVec 8)

/-- A count or an index as a 32-bit register shows it (00_scope.md R8). -/
def countWord (n : Nat) : Word := BitVec.ofNat 32 n

end Sys2Proof.Machine
end

