-- ==== Sys2Proof/Machine/Arbiter.lean ====
section
/-! DEFINITION. The completion handler: SERVICE (42_scheduler.md R77, R78). Not enabled, it changes nothing (log 6). -/

namespace Sys2Proof.Machine

/-- When SERVICE is enabled (R77). -/
def serviceEnabled (s : State) : Bool := s.pending && s.irqEn && decide (s.state = .streaming)

/-- Refill slot `i` from the ring: all of a quantum, or silence and one underrun (R77). The ring is drained only in
the first case. -/
def refill (i : SlotId) (s : State) : State :=
  if s.params.q ≤ s.count then setSlot i (drainFrames s.params.q s) (drain s.params.q s)
  else { setSlot i (silentFrames s.params.q) s with underrun := satInc32 s.underrun }

/-- SERVICE: swap the slots, refill the newly idle one, re-arm on the newly active one (R77). -/
def service (s : State) : State :=
  if serviceEnabled s then arm (otherSlot s.active) (refill s.active s) else s

end Sys2Proof.Machine
end

