-- ==== Sys2Proof/Machine/Operands.lean ====
section
/-! DEFINITION. Operand assembly (30_encoding.md R61): operands are whole ARG registers, unsigned. -/

namespace Sys2Proof.Machine

/-- INIT's `sample_rate = zext(ARG0)`. -/
abbrev initRate (s : State) : Nat := s.arg0.toNat

/-- INIT's `bits_per_sample = zext(ARG1)`. -/
abbrev initBits (s : State) : Nat := s.arg1.toNat

/-- INIT's `channel_count = zext(ARG2)`. -/
abbrev initChannels (s : State) : Nat := s.arg2.toNat

/-- WRITE's `count = zext(ARG0)`. -/
abbrev writeCount (s : State) : Nat := s.arg0.toNat

/-- WRITE's `src = ARG1`. -/
abbrev writeSource (s : State) : Addr := s.arg1

/-- An invalid argument of WRITE: null buffer, zero count or misaligned source (41_ring_buffer.md R66,
20_memory.md R42). -/
def writeInvalid (s : State) : Bool :=
  decide (writeSource s = 0) || decide (writeCount s = 0) ||
    decide ((writeSource s).extractLsb' 0 2 ≠ 0)

/-- The address of frame `i` of a WRITE, `(src + 4*i) mod 2^32` (R67). -/
def frameAddr (src : Addr) (i : Nat) : Addr := src + BitVec.ofNat 32 (4 * i)

/-- How many frames a valid WRITE takes, `min(n, free)` (R67). -/
def writeAccepted (s : State) : Nat := min (writeCount s) (freeSpace s)

/-- The frames a valid WRITE takes, in the order it reads them (R38, R67). -/
def writeFrames (s : State) : List Frame :=
  (List.range (writeAccepted s)).map fun i => memRead s.hostMem (frameAddr (writeSource s) i)

/-- A divisor that `divisor(rate)` accepts: the bit clock and the 16.8 divisor (43_configurator.md R86). -/
structure Divisor where
  bclk : Word
  dint : BitVec 16
  dfrac : BitVec 8
deriving DecidableEq, Repr

/-- The bit clock, `sample_rate × bits_per_sample × channel_count` (R86). -/
abbrev bitClock (rate : Nat) : Nat := rate * Config.bitsPerSample * Config.channels

/-- `d`: the divisor in 16.8 fixed point, truncated (R86). -/
abbrev divisorFixed (p : Config.Params) (rate : Nat) : Nat :=
  p.sysClkHz * 256 / (bitClock rate * p.edgeFactor)

/-- `divisor(rate)`; `none` where `ok_rate` is false (R86). -/
def divisor (p : Config.Params) (rate : Nat) : Option Divisor :=
  if rate = 0 then none
  else if divisorFixed p rate / 256 < 1 ∨ divisorFixed p rate / 256 > 65535 then none
  else some
    { bclk := BitVec.ofNat 32 (bitClock rate)
      dint := BitVec.ofNat 16 (divisorFixed p rate / 256)
      dfrac := BitVec.ofNat 8 (divisorFixed p rate % 256) }

end Sys2Proof.Machine
end

