-- ==== Sys2Proof/Machine/Configurator.lean ====
section
/-! DEFINITION. The configurator command: INIT (43_configurator.md). -/

namespace Sys2Proof.Machine

/-- INIT's commit (R83): the configuration, the buffers, the counters, the flags and IDLE. -/
def initCommit (d : Divisor) (s : State) : State :=
  { zeroBuffers s with
    sampleRate := s.arg0
    bclkHz := d.bclk
    divInt := d.dint
    divFrac := d.dfrac
    underrun := 0
    overrun := 0
    playing := false
    state := .idle
    active := .zero
    armed := false
    xferPos := 0
    pending := false
    clkEn := false
    irqEn := true }

/-- INIT's format check (R85). -/
def initFormatOk (s : State) : Bool :=
  decide (initBits s = Config.bitsPerSample) && decide (initChannels s = Config.channels)

/-- INIT (R83), its checks in the order of 60_exceptions.md R100. The claim is drawn only when the checks before it
pass (R88, D16). -/
def execInit (s : State) : Host.Outcome State Fault Refusal :=
  if s.state ≠ .uninit then .next (fail .cfgReinit s)
  else if initFormatOk s = false then .next (fail .cfgFormat s)
  else match divisor s.params (initRate s) with
    | none => .next (fail .cfgRate s)
    | some d =>
      if claimAnswer s then .next (finish 1 0 (initCommit d (consumeClaim s)))
      else .next (fail .cfgResource (consumeClaim s))

end Sys2Proof.Machine
end

