-- ==== Sys2Proof/Machine/RingBuffer.lean ====
section
/-! DEFINITION. The ring buffer commands: WRITE, GET_FREE_SPACE, GET_BUFFERED_COUNT (41_ring_buffer.md). -/

namespace Sys2Proof.Machine

/-- What a valid WRITE does to the ring, its producer index, the count and the overrun counter (R67, R68). -/
def acceptFrames (s : State) : State :=
  { s with
    ring := writeRing s.params.c s.ring s.widx (writeFrames s)
    widx := (s.widx + writeAccepted s) % s.params.c
    count := s.count + writeAccepted s
    overrun := if writeAccepted s < writeCount s then satInc32 s.overrun else s.overrun }

/-- WRITE (R67): NOT_INIT in UNINIT (R96), a no-op on an invalid argument (R66), else the accepted frames. -/
def execWrite (s : State) : Host.Outcome State Fault Refusal :=
  if s.state = .uninit then .next (fail .notInit s)
  else if writeInvalid s then .next (finish 0 0 s)
  else .next (finish (countWord (writeAccepted s)) 0 (acceptFrames s))

/-- GET_FREE_SPACE (R69). -/
def execGetFreeSpace (s : State) : Host.Outcome State Fault Refusal :=
  .next (finish (countWord (freeSpace s)) 0 s)

/-- GET_BUFFERED_COUNT (R70). -/
def execGetBufferedCount (s : State) : Host.Outcome State Fault Refusal :=
  .next (finish (countWord s.count) 0 s)

end Sys2Proof.Machine
end

