-- ==== Sys2Proof/Machine/Scheduler.lean ====
section
/-! DEFINITION. The scheduler commands: START, STOP, CLEAR (42_scheduler.md R72 to R74). -/

namespace Sys2Proof.Machine

/-- What START does from IDLE or STOPPED (R72): slot 0 takes up to `Q` frames, padded with silence, is armed, and
clocking and streaming begin. Slot 1 and `st.underrun` are not written. -/
def startStreaming (s : State) : State :=
  { arm .zero (setSlot .zero (padWithSilence s.params.q (drainFrames s.params.q s)) (drain s.params.q s)) with
    clkEn := true
    state := .streaming
    playing := true }

/-- START (R72). -/
def execStart (s : State) : Host.Outcome State Fault Refusal :=
  match s.state with
  | .uninit => .next (fail .notInit s)
  | .streaming => .next (finish 0 0 s)
  | .idle => .next (finish 0 0 (startStreaming s))
  | .stopped => .next (finish 0 0 (startStreaming s))

/-- STOP (R73). -/
def execStop (s : State) : Host.Outcome State Fault Refusal :=
  match s.state with
  | .uninit => .next (fail .notInit s)
  | .streaming => .next (finish 0 0 (stopBody s))
  | .idle => .next (finish 0 0 s)
  | .stopped => .next (finish 0 0 s)

/-- CLEAR (R74): STOP's body when streaming, then the buffers; the counters stay. -/
def execClear (s : State) : Host.Outcome State Fault Refusal :=
  match s.state with
  | .uninit => .next (fail .notInit s)
  | .streaming => .next (finish 0 0 (zeroBuffers (stopBody s)))
  | .idle => .next (finish 0 0 (zeroBuffers s))
  | .stopped => .next (finish 0 0 (zeroBuffers s))

end Sys2Proof.Machine
end

