-- ==== Sys2Proof/Machine/Stats.lean ====
section
/-! DEFINITION. GET_STATS and the rule for illegal words (44_stats_and_bus.md R90, R93). -/

namespace Sys2Proof.Machine

/-- GET_STATS (R90): both counters in one step. -/
def execGetStats (s : State) : Host.Outcome State Fault Refusal :=
  .next (finish s.underrun s.overrun s)

/-- ILLEGAL (R93): any word that decodes to no command. -/
def illegalCommand (s : State) : State := fail .illegalCmd s

end Sys2Proof.Machine
end

