-- ==== Sys2Proof/Machine/Dispatch.lean ====
section
/-! DEFINITION. One arm per command. -/

namespace Sys2Proof.Machine

def exec (i : Instr) (s : State) : Host.Outcome State Fault Refusal :=
  match i with
  | .init => Sys2Proof.Machine.execInit s
  | .write => Sys2Proof.Machine.execWrite s
  | .start => Sys2Proof.Machine.execStart s
  | .stop => Sys2Proof.Machine.execStop s
  | .clear => Sys2Proof.Machine.execClear s
  | .getFreeSpace => Sys2Proof.Machine.execGetFreeSpace s
  | .getBufferedCount => Sys2Proof.Machine.execGetBufferedCount s
  | .getStats => Sys2Proof.Machine.execGetStats s

end Sys2Proof.Machine
end

