-- ==== Sys2Proof/Machine/Engine.lean ====
section
/-! DEFINITION. The transfer engine's steps: BEAT and COMPLETE (42_scheduler.md R75, R76). A step that is offered
when it is not enabled changes nothing (log 6). -/

namespace Sys2Proof.Machine

/-- When BEAT is enabled (R75). -/
def beatEnabled (s : State) : Bool := s.armed && s.clkEn && decide (s.xferPos < s.params.q)

/-- BEAT: deliver the next frame of the active slot (R75). -/
def beat (s : State) : State :=
  if beatEnabled s then
    { s with out := s.out ++ [slotRead s s.active s.xferPos], xferPos := s.xferPos + 1 }
  else s

/-- When COMPLETE is enabled (R76). -/
def completeEnabled (s : State) : Bool := s.armed && decide (s.xferPos = s.params.q)

/-- COMPLETE: raise the completion signal (R76). -/
def complete (s : State) : State :=
  if completeEnabled s then { s with armed := false, pending := true } else s

end Sys2Proof.Machine
end

