-- ==== Sys2Proof/Machine/Bus.lean ====
section
/-! DEFINITION. The host's CSR accesses (44_stats_and_bus.md R91, R92) and what each input of a step does. -/

namespace Sys2Proof.Machine

/-- The offset in the CSR window of an access of `size` bytes at bus address `addr`, where the block admits it: 32
bits, at a multiple of 4, `0 <= OFF <= 0xFC` (R91, 20_memory.md R41, R46; log 10). -/
def csrOffset (p : Config.Params) (addr : Addr) (size : Nat) : Option Nat :=
  if size = 4 ∧ (addr - p.csrBase).toNat % 4 = 0 ∧ (addr - p.csrBase).toNat ≤ 0xFC then
    some (addr - p.csrBase).toNat
  else none

/-- `csrr OFF` (R91, register map 10_state.md R21). -/
def csrRead (s : State) (offset : Nat) : Word :=
  match offset with
  | 0x00 => 0
  | 0x04 => s.arg0
  | 0x08 => s.arg1
  | 0x0C => s.arg2
  | 0x10 => s.result0
  | 0x14 => s.result1
  | 0x18 => statusWord s
  | 0x1C => countWord s.count
  | 0x20 => countWord (freeSpace s)
  | 0x24 => countWord s.widx
  | 0x28 => countWord s.ridx
  | 0x2C => s.underrun
  | 0x30 => s.overrun
  | 0x34 => s.sampleRate
  | 0x38 => s.bclkHz
  | 0x3C => clkdivWord s
  | 0x40 => countWord s.params.c
  | 0x44 => countWord s.params.q
  | _ => 0

/-- `execute(decode(w))`: a CMD write runs its whole command (R92, 00_scope.md R11). -/
def execute (w : Word) (s : State) : Host.Outcome State Fault Refusal :=
  match decode w with
  | .ok i => exec i s
  | .error _ => .next (illegalCommand s)

/-- `csrw OFF, V` (R92): read-only and reserved offsets ignore the write. -/
def csrWrite (offset : Nat) (v : Word) (s : State) : Host.Outcome State Fault Refusal :=
  match offset with
  | 0x00 => execute v s
  | 0x04 => .next { s with arg0 := v }
  | 0x08 => .next { s with arg1 := v }
  | 0x0C => .next { s with arg2 := v }
  | _ => .next s

/-- A host read: the value goes to the host and no element of the block changes (R91, 20_memory.md R44). -/
def busRead (addr : Addr) (size : Nat) (s : State) : Host.Outcome State Fault Refusal :=
  match csrOffset s.params addr size with
  | some off => .next { s with readData := csrRead s off }
  | none => .refused .csrAccess

/-- A host write. -/
def busWrite (addr : Addr) (size : Nat) (data : Word) (s : State) : Host.Outcome State Fault Refusal :=
  match csrOffset s.params addr size with
  | some off => csrWrite off data s
  | none => .refused .csrAccess

/-- What one input does (20_memory.md R47, 60_exceptions.md R107, 70_reset_and_hazards.md R110). -/
def perform (i : Input) (s : State) : Host.Outcome State Fault Refusal :=
  match i with
  | .busRead addr size => busRead addr size s
  | .busWrite addr size data => busWrite addr size data s
  | .beat => .next (beat s)
  | .complete => .next (complete s)
  | .service => .next (service s)
  | .reset => .next (resetBlock s)
  | .hostStore addr v => .next { s with hostMem := s.hostMem.write addr.toNat v }

/-- One whole step: the next input of the total order, performed. A configuration that breaks 00_scope.md R7 is
refused. -/
def stepInput (s : State) : Host.Outcome State Fault Refusal :=
  if s.params.wf then perform (nextInput s) (consumeInput s) else .refused .parameters

/-- The host's write of command word `w` to CMD (30_encoding.md R57). -/
def commandInput (p : Config.Params) (w : Word) : Input := .busWrite p.csrBase 4 w

end Sys2Proof.Machine
end

