-- ==== Sys2Proof/Machine/Step.lean ====
section
/-! DEFINITION. The step, and where it takes its next command word from. -/

namespace Sys2Proof.Machine

/-- One step of the whole block (00_scope.md R11). -/
def step (s : State) : Host.Outcome State Fault Refusal := stepInput s

/-- `s`, with the CMD write of the low `nbits` bits of `w` as the very next input. The block has no instruction
memory (10_state.md R17): a command runs because the host writes it to CMD (log 5). -/
def State.withFetchWord (s : State) (nbits w : Nat) : State :=
  { s with inputs := commandInput s.params (BitVec.ofNat 32 (w % 2 ^ nbits)) :: s.inputs }

end Sys2Proof.Machine
end

