-- ==== Sys2Proof/Machine/Assembler.lean ====
section
/-! DEFINITION. The assembler notation of 30_encoding.md R65 as lists of inputs. -/

namespace Sys2Proof.Machine

/-- `csrw OFF, V`. -/
def csrw (p : Config.Params) (offset : Nat) (v : Word) : Input :=
  .busWrite (p.csrBase + BitVec.ofNat 32 offset) 4 v

/-- `csrr OFF`. -/
def csrr (p : Config.Params) (offset : Nat) : Input :=
  .busRead (p.csrBase + BitVec.ofNat 32 offset) 4

/-- `INIT rate, bits, ch`. -/
def asmInit (p : Config.Params) (rate bits ch : Word) : List Input :=
  [csrw p 0x04 rate, csrw p 0x08 bits, csrw p 0x0C ch, csrw p 0x00 (encode .init)]

/-- `WRITE src, n`. -/
def asmWrite (p : Config.Params) (src n : Word) : List Input :=
  [csrw p 0x04 n, csrw p 0x08 src, csrw p 0x00 (encode .write)]

/-- `START`. -/
def asmStart (p : Config.Params) : List Input := [csrw p 0x00 (encode .start)]

/-- `STOP`. -/
def asmStop (p : Config.Params) : List Input := [csrw p 0x00 (encode .stop)]

/-- `CLEAR`. -/
def asmClear (p : Config.Params) : List Input := [csrw p 0x00 (encode .clear)]

/-- `GET_FREE_SPACE`. -/
def asmGetFreeSpace (p : Config.Params) : List Input :=
  [csrw p 0x00 (encode .getFreeSpace), csrr p 0x10]

/-- `GET_BUFFERED_COUNT`. -/
def asmGetBufferedCount (p : Config.Params) : List Input :=
  [csrw p 0x00 (encode .getBufferedCount), csrr p 0x10]

/-- `GET_STATS`. -/
def asmGetStats (p : Config.Params) : List Input :=
  [csrw p 0x00 (encode .getStats), csrr p 0x10, csrr p 0x14]

/-- `@BEAT*k`. -/
def asmBeats (k : Nat) : List Input := List.replicate k .beat

/-- `@QUANTUM`: `@BEAT*Q ; @COMPLETE ; @SERVICE`. -/
def asmQuantum (p : Config.Params) : List Input := asmBeats p.q ++ [.complete, .service]

end Sys2Proof.Machine
end

