-- ==== Sys2Proof/Machine/Collaborators.lean ====
section
/-! DEFINITION. What the block hands its two external collaborators (43_configurator.md R89, 60_exceptions.md R106).
They are views of the state: the calls add no state of their own. -/

namespace Sys2Proof.Machine

/-- `configure(bit_clock_divisor, pin_assignment)`: the divisor in 1/256 units and the pins (R89 a). -/
structure GeneratorConfig where
  divisor256 : Nat
  pins : Nat
deriving DecidableEq, Repr

/-- What `configure` has received: nothing before a successful INIT, then the stored divisor,
`div_int + div_frac / 256`, for good (R89 a, 10_state.md R31). -/
def generatorConfig (s : State) : Option GeneratorConfig :=
  if s.state = .uninit then none
  else some
    { divisor256 := s.divInt.toNat * 256 + s.divFrac.toNat
      pins := s.params.pinAssignment }

/-- `enable(bool)` follows `st.clk_en` (R89 b). -/
def generatorEnabled (s : State) : Bool := s.clkEn

/-- `arm_transfer(buffer_pointer, length, destination)` (10_state.md R25). -/
structure Transfer where
  buffer : SlotId
  length : Nat
  destination : Nat
deriving DecidableEq, Repr

/-- The transfer the engine holds: the active slot, `Q` frames, to `DEST` (R25). -/
def armedTransfer (s : State) : Option Transfer :=
  if s.armed then
    some { buffer := s.active, length := s.params.q, destination := s.params.dest }
  else none

/-- `on_complete(callback)` has been registered (R29, R106). -/
def handlerInstalled (s : State) : Bool := s.irqEn

end Sys2Proof.Machine
end

