-- ==== Sys2Proof/Safety.lean ====
section
/-! DEFINITION. The terms claims are stated in: the invariant of reachable states, runs, the history of the ring, the
output of a streaming episode, and fairness. -/

namespace Sys2Proof.Safety

open Sys2Proof.Machine

/-- The command a step's input issues, where it is an admitted CMD write of a legal word (44_stats_and_bus.md R92). -/
def issued (p : Config.Params) : Input → Option Instr
  | .busWrite addr size w =>
    if csrOffset p addr size = some 0 then
      match decode w with
      | .ok i => some i
      | .error _ => none
    else none
  | .busRead _ _ => none
  | .beat => none
  | .complete => none
  | .service => none
  | .reset => none
  | .hostStore _ _ => none

/-- Whether a step's input is an admitted CMD write, of a legal word or not. -/
def isCmdWrite (p : Config.Params) : Input → Bool
  | .busWrite addr size _ => decide (csrOffset p addr size = some 0)
  | .busRead _ _ => false
  | .beat => false
  | .complete => false
  | .service => false
  | .reset => false
  | .hostStore _ _ => false

/-- A step with input `i` is one of the listed writers: a CMD write that issues one of `commands`, or one of `others`. -/
def WrittenBy (p : Config.Params) (i : Input) (commands : List Instr) (others : List Input) : Prop :=
  (∃ c ∈ commands, issued p i = some c) ∨ i ∈ others

/-- What every reachable state of the block satisfies (10_state.md section 9). -/
structure Inv (s : State) : Prop where
  /-- The parameters meet 00_scope.md R7. -/
  params : s.params.wf = true
  /-- RING holds `C` frames (R22). -/
  ring_length : s.ring.length = s.params.c
  /-- SLOT[0] holds `Q` frames (R23). -/
  slot0_length : s.slot0.length = s.params.q
  /-- SLOT[1] holds `Q` frames (R23). -/
  slot1_length : s.slot1.length = s.params.q
  /-- `st.ridx` lies in `0..C-1` (R14). -/
  ridx_lt : s.ridx < s.params.c
  /-- R32. -/
  count_le : s.count ≤ s.params.c
  /-- R33. -/
  widx_eq : s.widx = (s.ridx + s.count) % s.params.c
  /-- R19. -/
  playing_iff : s.playing = true ↔ s.state = .streaming
  /-- R34 (a). -/
  streaming_armed : s.state = .streaming → s.armed = !s.pending
  /-- R34 (a). -/
  streaming_clock : s.state = .streaming → s.clkEn = true
  /-- R34 (b). -/
  halted : s.state ≠ .streaming →
    s.armed = false ∧ s.pending = false ∧ s.clkEn = false ∧ s.xferPos = 0
  /-- R34 (c). -/
  armed_pos : s.armed = true → s.xferPos ≤ s.params.q
  /-- R34 (d). -/
  pending_pos : s.pending = true → s.xferPos = s.params.q
  /-- R35. -/
  uninit_reset : s.state = .uninit →
    s.irqEn = false ∧ s.widx = 0 ∧ s.ridx = 0 ∧ s.count = 0 ∧ s.active = .zero ∧
      s.underrun = 0 ∧ s.overrun = 0 ∧ s.sampleRate = 0 ∧ s.bclkHz = 0 ∧ s.divInt = 0 ∧ s.divFrac = 0
  /-- R29: a successful INIT enables the handler and only reset disables it. -/
  irq_enabled : s.state ≠ .uninit → s.irqEn = true
  /-- R31: the configuration is what `divisor` gave for the stored rate. -/
  configured : s.state ≠ .uninit →
    divisor s.params s.sampleRate.toNat = some { bclk := s.bclkHz, dint := s.divInt, dfrac := s.divFrac }
  /-- Host memory has its canonical form. -/
  memory : s.hostMem.wf = true

/-- A state a run can begin in: power-on (10_state.md R36) with any admitted parameters, any contents of RING and SLOT
(they are unspecified there), any host memory, any order of steps and any claim answers to come. -/
structure PowerOn (s : State) : Prop where
  params : s.params.wf = true
  ring_length : s.ring.length = s.params.c
  slot0_length : s.slot0.length = s.params.q
  slot1_length : s.slot1.length = s.params.q
  memory : s.hostMem.wf = true
  /-- Everything else is as `State.powerOn` has it. -/
  rest : s = { State.powerOn s.params with
    ring := s.ring
    slot0 := s.slot0
    slot1 := s.slot1
    hostMem := s.hostMem
    inputs := s.inputs
    claims := s.claims
    draws := s.draws
    readData := s.readData }

/-- The states a run can reach. -/
inductive Reachable : State → Prop where
  | powerOn {s : State} (h : PowerOn s) : Reachable s
  | step {s t : State} (h : Reachable s) (hs : Machine.step s = .next t) : Reachable t

/-! ### The history of the ring (20_memory.md R51) -/

/-- The frames a step with input `i` from `s` accepts into the ring. -/
def acceptedBy (i : Input) (s : State) : List Frame :=
  if issued s.params i = some .write ∧ s.state ≠ .uninit ∧ writeInvalid s = false then writeFrames s else []

/-- The frames a step with input `i` from `s` drains from the ring. -/
def drainedBy (i : Input) (s : State) : List Frame :=
  if (issued s.params i = some .start ∧ (s.state = .idle ∨ s.state = .stopped)) ∨
      (i = .service ∧ serviceEnabled s = true ∧ s.params.q ≤ s.count) then
    drainFrames s.params.q s
  else []

/-- Whether an INIT from `s` succeeds (43_configurator.md R83). -/
def initSucceeds (s : State) : Bool :=
  decide (s.state = .uninit) && initFormatOk s && (divisor s.params (initRate s)).isSome && claimAnswer s

/-- Whether a step with input `i` from `s` empties the ring: a CLEAR that runs, a successful INIT, or reset. -/
def emptiesRing (i : Input) (s : State) : Bool :=
  decide (i = .reset) || (decide (issued s.params i = some .clear) && decide (s.state ≠ .uninit)) ||
    (decide (issued s.params i = some .init) && initSucceeds s)

/-- A run with its two sequences of R51: the frames accepted and the frames drained since the ring was last emptied. -/
inductive History : State → List Frame → List Frame → Prop where
  | powerOn {s : State} (h : PowerOn s) : History s [] []
  | emptied {s t : State} {accepted drained : List Frame} (h : History s accepted drained)
      (hs : Machine.step s = .next t) (he : emptiesRing (nextInput s) (consumeInput s) = true) : History t [] []
  | step {s t : State} {accepted drained : List Frame} (h : History s accepted drained)
      (hs : Machine.step s = .next t) (he : emptiesRing (nextInput s) (consumeInput s) = false) :
      History t (accepted ++ acceptedBy (nextInput s) (consumeInput s))
        (drained ++ drainedBy (nextInput s) (consumeInput s))

/-- The states reached from `s` by steps none of which issues a WRITE (70_reset_and_hazards.md R116). -/
inductive NoWrite : State → State → Prop where
  | refl (s : State) : NoWrite s s
  | step {s t u : State} (h : NoWrite s t) (hs : Machine.step t = .next u)
      (hw : issued t.params (nextInput t) ≠ some .write) : NoWrite s u

/-! ### The output of a streaming episode without WRITEs (42_scheduler.md R81, R82) -/

/-- `F0`: what START puts in slot 0. -/
def firstQuantum (s : State) : List Frame := padWithSilence s.params.q (drainFrames s.params.q s)

/-- `R_j`, `j >= 1`: what the j-th SERVICE writes, where the ring holds `left` after START and no WRITE intervenes. -/
def refillAt (q : Nat) (left : List Frame) (j : Nat) : List Frame :=
  if j * q ≤ left.length then (left.drop ((j - 1) * q)).take q else silentFrames q

/-- The k-th quantum armed in an episode begun from `s`: `F0`, then slot 1 as START found it, then the refills. -/
def episodeQuantum (s : State) (k : Nat) : List Frame :=
  if k = 0 then firstQuantum s
  else if k = 1 then s.slot1
  else refillAt s.params.q ((buffered s).drop s.params.q) (k - 1)

/-- `n` times `@QUANTUM`. -/
def asmQuanta (p : Config.Params) (n : Nat) : List Input := (List.replicate n (asmQuantum p)).flatten

/-- The state after the commands and events listed first in `s.inputs`, as many as `k`. -/
abbrev runs (k : Nat) (s : State) : Host.Outcome State Fault Refusal := Host.Core.run Sys2Proof.core k s

/-! ### Fairness (20_memory.md R48) -/

/-- Whether the block gives the input a meaning: everything but a CSR access that R41 excludes. -/
def admitted (p : Config.Params) : Input → Bool
  | .busRead addr size => (csrOffset p addr size).isSome
  | .busWrite addr size _ => (csrOffset p addr size).isSome
  | .beat => true
  | .complete => true
  | .service => true
  | .reset => true
  | .hostStore _ _ => true

/-- An input that may stand in a run which is never stopped: admitted, and neither reset nor a STOP or CLEAR. -/
def keepsStreaming (p : Config.Params) (i : Input) : Prop :=
  admitted p i = true ∧ i ≠ .reset ∧ issued p i ≠ some .stop ∧ issued p i ≠ some .clear

/-- A fair stretch of inputs: the engine and the arbiter are each offered every one of their steps at least once. The
step does not enforce fairness (log 11): it is a premise of the claim about liveness. -/
def fairRound (r : List Input) : Prop := .beat ∈ r ∧ .complete ∈ r ∧ .service ∈ r

end Sys2Proof.Safety
end

