-- ==== Sys2Proof/Certificates/Slice0/Obligations.lean ====
section
/-! DEFINITION. The statements for the provers. -/

open Sys2Proof Sys2Proof.Machine Sys2Proof.Safety

/-! ### Encoding -/

/-- R59, R60: the opcode map, and every other word is illegal, total on all words. -/
def Obligations.OpcodeMapIsTotal : Prop :=
  decode 0x00000001 = .ok .init ∧ decode 0x00000002 = .ok .write ∧ decode 0x00000003 = .ok .start ∧
  decode 0x00000004 = .ok .stop ∧ decode 0x00000005 = .ok .clear ∧ decode 0x00000006 = .ok .getFreeSpace ∧
  decode 0x00000007 = .ok .getBufferedCount ∧ decode 0x00000008 = .ok .getStats ∧
  (∀ w : Word, w.extractLsb' 4 28 ≠ 0 → decode w = .error .reservedBits) ∧
  (∀ w : Word, w.extractLsb' 4 28 = 0 →
    ((w.extractLsb' 0 4).toNat = 0 ∨ 9 ≤ (w.extractLsb' 0 4).toNat) → decode w = .error .reservedOpcode)

/-- A word decodes to a command exactly when it is that command's encoding: no bit is dropped and no second word
decodes to it (R57 to R60). -/
def Obligations.DecodeAndEncodeAgree : Prop :=
  ∀ (w : Word) (i : Instr), decode w = .ok i ↔ w = encode i

/-- R63: the words that decode to a command are those with a zero RSVD field and OPC 1 to 8. -/
def Obligations.LegalWordsAreTheWellFormedOnes : Prop :=
  ∀ w : Word, commandWordWf w = true ↔ ∃ i, decode w = .ok i

/-! ### The step -/

/-- R92 (offset 0x00), R11: when the next input is the host's write of a word to CMD and the word decodes to a
well-formed command, the step is `exec` of that command, with the input taken; and `withFetchWord` makes it so. -/
def Obligations.StepRunsTheDecodedCommand : Prop :=
  (∀ (s : State) (w : Word) (i : Instr) (rest : List Input), s.params.wf = true → i.wf = true →
    s.inputs = .busWrite s.params.csrBase 4 w :: rest → decode w = .ok i →
      step s = exec i { s with inputs := rest }) ∧
  (∀ (s : State) (i : Instr), s.params.wf = true → i.wf = true →
    step (s.withFetchWord 32 (encode i).toNat) = exec i s)

/-- R93: an illegal word, in every state, writes ILLEGAL_CMD and zero results and nothing else. -/
def Obligations.IllegalWordOnlyReports : Prop :=
  ∀ (s : State) (w : Word) (e : DecodeError) (rest : List Input), s.params.wf = true →
    s.inputs = .busWrite s.params.csrBase 4 w :: rest → decode w = .error e →
      step s = .next { s with inputs := rest, err := .illegalCmd, result0 := 0, result1 := 0 }

/-- R7: a configuration is refused exactly when it breaks a constraint. -/
def Obligations.BadParametersAreRefused : Prop :=
  ∀ s : State, step s = .refused .parameters ↔
    ¬(1 ≤ s.params.q ∧ s.params.q ≤ s.params.c ∧ s.params.c ≤ 2 ^ 31 - 1 ∧
      1 ≤ s.params.edgeFactor ∧ s.params.edgeFactor ≤ 2 ^ 16 - 1 ∧
      1 ≤ s.params.sysClkHz ∧ s.params.sysClkHz ≤ 2 ^ 32 - 1)

/-! ### INIT -/

/-- R83, R84, R85, R100: INIT in every state and with all operands: its four failures, in order, and its commit. -/
def Obligations.InitOutcomes : Prop :=
  decode 0x00000001 = .ok .init ∧ ∀ s : State,
    (s.state ≠ .uninit →
      exec .init s = .next { s with err := .cfgReinit, result0 := 0, result1 := 0 }) ∧
    (s.state = .uninit → ¬(s.arg1 = 16 ∧ s.arg2 = 2) →
      exec .init s = .next { s with err := .cfgFormat, result0 := 0, result1 := 0 }) ∧
    (s.state = .uninit → s.arg1 = 16 → s.arg2 = 2 → divisor s.params s.arg0.toNat = none →
      exec .init s = .next { s with err := .cfgRate, result0 := 0, result1 := 0 }) ∧
    (∀ d, s.state = .uninit → s.arg1 = 16 → s.arg2 = 2 → divisor s.params s.arg0.toNat = some d →
      claimAnswer s = false →
      exec .init s = .next { consumeClaim s with err := .cfgResource, result0 := 0, result1 := 0 }) ∧
    (∀ d, s.state = .uninit → s.arg1 = 16 → s.arg2 = 2 → divisor s.params s.arg0.toNat = some d →
      claimAnswer s = true →
      exec .init s = .next { consumeClaim s with
        sampleRate := s.arg0
        bclkHz := d.bclk
        divInt := d.dint
        divFrac := d.dfrac
        ring := List.replicate s.params.c 0
        slot0 := List.replicate s.params.q 0
        slot1 := List.replicate s.params.q 0
        widx := 0
        ridx := 0
        count := 0
        underrun := 0
        overrun := 0
        playing := false
        state := .idle
        active := .zero
        armed := false
        xferPos := 0
        pending := false
        clkEn := false
        irqEn := true
        result0 := 1
        result1 := 0
        err := .ok })

/-- R88: the claim's answer is the next one the run fixes, and else a value nothing constrains; taking it changes no
element of the block. (The form of the draw is the model's: log 4.) -/
def Obligations.ClaimIsADraw : Prop :=
  ∀ s : State,
    (∀ b rest, s.claims = b :: rest → claimAnswer s = b ∧ consumeClaim s = { s with claims := rest }) ∧
    (s.claims = [] → claimAnswer s = Config.claimOk s.draws ∧
      consumeClaim s = { s with draws := s.draws + 1 })

/-- R86: the divisor is the exact 16.8 quotient, accepted exactly when the rate is not 0 and the integer part lies in
1 to 65535; and at 150 MHz with EDGE_FACTOR 2 the accepted rates are 36 to 2 343 750. -/
def Obligations.DivisorIsExact : Prop :=
  (∀ (p : Config.Params) (rate : Nat) (d : Divisor), p.wf = true →
    (divisor p rate = some d ↔
      rate ≠ 0 ∧ d.bclk.toNat = rate * 16 * 2 ∧ 1 ≤ d.dint.toNat ∧ d.dint.toNat ≤ 65535 ∧
      d.dint.toNat * 256 + d.dfrac.toNat = p.sysClkHz * 256 / (rate * 16 * 2 * p.edgeFactor))) ∧
  (∀ (p : Config.Params) (rate : Nat), p.sysClkHz = 150000000 → p.edgeFactor = 2 →
    ((divisor p rate).isSome = true ↔ 36 ≤ rate ∧ rate ≤ 2343750))

/-! ### WRITE and the ring -/

/-- R67, R66: WRITE in every state and with all operands. Where it takes frames it writes ring entries
`(widx + i) mod C`, the producer index, the count, and the overrun counter once when truncated, and nothing else. -/
def Obligations.WriteOutcomes : Prop :=
  decode 0x00000002 = .ok .write ∧ ∀ s : State, s.ring.length = s.params.c →
    (s.state = .uninit →
      exec .write s = .next { s with err := .notInit, result0 := 0, result1 := 0 }) ∧
    (s.state ≠ .uninit → (s.arg1 = 0 ∨ s.arg0 = 0 ∨ s.arg1.toNat % 4 ≠ 0) →
      exec .write s = .next { s with err := .ok, result0 := 0, result1 := 0 }) ∧
    (∀ acc, s.state ≠ .uninit → s.arg1 ≠ 0 → s.arg0 ≠ 0 → s.arg1.toNat % 4 = 0 →
      acc = min s.arg0.toNat (s.params.c - s.count) →
      ∃ t, exec .write s = .next t ∧
        t = { s with
          ring := t.ring
          widx := (s.widx + acc) % s.params.c
          count := s.count + acc
          overrun :=
            if acc < s.arg0.toNat then (if s.overrun = 0xFFFFFFFF then s.overrun else s.overrun + 1)
            else s.overrun
          result0 := BitVec.ofNat 32 acc
          result1 := 0
          err := .ok } ∧
        t.ring.length = s.params.c ∧
        (∀ i, i < acc → t.ring[(s.widx + i) % s.params.c]? =
          some (memRead s.hostMem (BitVec.ofNat 32 (s.arg1.toNat + 4 * i)))) ∧
        (∀ j, (∀ i, i < acc → j ≠ (s.widx + i) % s.params.c) → t.ring[j]? = s.ring[j]?))

/-- R68: a WRITE that takes frames keeps every frame the ring held, in order, and appends the first of the incoming
ones; the tail is rejected. -/
def Obligations.WriteKeepsBufferedFrames : Prop :=
  ∀ s : State, Inv s → s.state ≠ .uninit → s.arg1 ≠ 0 → s.arg0 ≠ 0 → s.arg1.toNat % 4 = 0 →
    ∃ t, exec .write s = .next t ∧
      buffered t = buffered s ++
        (List.range (min s.arg0.toNat (s.params.c - s.count))).map
          (fun i => memRead s.hostMem (BitVec.ofNat 32 (s.arg1.toNat + 4 * i)))

/-- R71: `drain(n)` takes the oldest `min(n, count)` frames, reports the shortfall, and writes `ridx` and `count` only;
the frames it takes are gone from the ring and the others stay in order. -/
def Obligations.DrainTakesTheOldest : Prop :=
  ∀ (s : State) (n : Nat),
    drainFrames n s = (buffered s).take n ∧ buffered (drain n s) = (buffered s).drop n ∧
    drainShortfall n s = n - s.count ∧
    drain n s = { s with
      ridx := (s.ridx + min n s.count) % s.params.c
      count := s.count - min n s.count }

/-- R69, R70, R90: the three snapshots, in every state. -/
def Obligations.SnapshotsReturnTheirCounts : Prop :=
  (decode 0x00000006 = .ok .getFreeSpace ∧ decode 0x00000007 = .ok .getBufferedCount ∧
    decode 0x00000008 = .ok .getStats) ∧ ∀ s : State,
    exec .getFreeSpace s =
      .next { s with result0 := BitVec.ofNat 32 (s.params.c - s.count), result1 := 0, err := .ok } ∧
    exec .getBufferedCount s = .next { s with result0 := BitVec.ofNat 32 s.count, result1 := 0, err := .ok } ∧
    exec .getStats s = .next { s with result0 := s.underrun, result1 := s.overrun, err := .ok }

/-- Along every run from power-on, the frames accepted since the ring was last emptied are the frames drained since
then, followed by the frames in the ring, in order. R51 counts from the last INIT or CLEAR; that the ring is empty at
power-on and after a reset too is R36 and R110. (The step lemma beside it is `StepKeepsTheRingAFifo`.) -/
def Obligations.RingIsAFifo : Prop :=
  ∀ (s : State) (accepted drained : List Frame), History s accepted drained →
    accepted = drained ++ (List.range s.count).map (fun k => ringRead s (s.ridx + k))

/-- R51 as an invariant of the step, from every state that meets the invariant: if the frames accepted so far are the
frames drained so far followed by the frames in the ring, so they are after any step, with what the step accepts and
drains; and a step that empties the ring (a successful INIT or a CLEAR that runs, R51; reset, R36 and R110) leaves no
frame in it, so that both sequences begin again empty. -/
def Obligations.StepKeepsTheRingAFifo : Prop :=
  ∀ (s t : State) (accepted drained : List Frame), Inv s → accepted = drained ++ buffered s → step s = .next t →
    (emptiesRing (nextInput s) (consumeInput s) = true → buffered t = []) ∧
    (emptiesRing (nextInput s) (consumeInput s) = false →
      accepted ++ acceptedBy (nextInput s) (consumeInput s) =
        drained ++ drainedBy (nextInput s) (consumeInput s) ++ buffered t)

/-- R116: until the next WRITE, free space read earlier is a lower bound and a buffered count an upper bound, and a
valid WRITE of at most that free space takes every frame and does not overrun. -/
def Obligations.SnapshotsBoundLaterCounts : Prop :=
  ∀ s t : State, Inv s → NoWrite s t →
    freeSpace s ≤ freeSpace t ∧ t.count ≤ s.count ∧
    (t.state ≠ .uninit → writeInvalid t = false → t.arg0.toNat ≤ freeSpace s →
      ∃ u, exec .write t = .next u ∧ u.overrun = t.overrun ∧ u.result0 = t.arg0)

/-! ### The scheduler -/

/-- R72: START in every state. -/
def Obligations.StartOutcomes : Prop :=
  decode 0x00000003 = .ok .start ∧ ∀ s : State,
    (s.state = .uninit →
      exec .start s = .next { s with err := .notInit, result0 := 0, result1 := 0 }) ∧
    (s.state = .streaming →
      exec .start s = .next { s with err := .ok, result0 := 0, result1 := 0 }) ∧
    (∀ k, s.state = .idle ∨ s.state = .stopped → k = min s.params.q s.count →
      exec .start s = .next { s with
        slot0 := (List.range k).map (fun i => ringRead s (s.ridx + i)) ++
          List.replicate (s.params.q - k) 0
        ridx := (s.ridx + k) % s.params.c
        count := s.count - k
        active := .zero
        armed := true
        xferPos := 0
        pending := false
        clkEn := true
        state := .streaming
        playing := true
        err := .ok
        result0 := 0
        result1 := 0 })

/-- R73: STOP in every state. -/
def Obligations.StopOutcomes : Prop :=
  decode 0x00000004 = .ok .stop ∧ ∀ s : State,
    (s.state = .uninit →
      exec .stop s = .next { s with err := .notInit, result0 := 0, result1 := 0 }) ∧
    (s.state = .idle ∨ s.state = .stopped →
      exec .stop s = .next { s with err := .ok, result0 := 0, result1 := 0 }) ∧
    (s.state = .streaming →
      exec .stop s = .next { s with
        armed := false
        xferPos := 0
        pending := false
        clkEn := false
        state := .stopped
        playing := false
        err := .ok
        result0 := 0
        result1 := 0 })

/-- R74: CLEAR in every state; the counters, `active` and the configuration stay. -/
def Obligations.ClearOutcomes : Prop :=
  decode 0x00000005 = .ok .clear ∧ ∀ s : State,
    (s.state = .uninit →
      exec .clear s = .next { s with err := .notInit, result0 := 0, result1 := 0 }) ∧
    (s.state = .idle ∨ s.state = .stopped →
      exec .clear s = .next { s with
        ring := List.replicate s.params.c 0
        slot0 := List.replicate s.params.q 0
        slot1 := List.replicate s.params.q 0
        widx := 0
        ridx := 0
        count := 0
        err := .ok
        result0 := 0
        result1 := 0 }) ∧
    (s.state = .streaming →
      exec .clear s = .next { s with
        ring := List.replicate s.params.c 0
        slot0 := List.replicate s.params.q 0
        slot1 := List.replicate s.params.q 0
        widx := 0
        ridx := 0
        count := 0
        armed := false
        xferPos := 0
        pending := false
        clkEn := false
        state := .stopped
        playing := false
        err := .ok
        result0 := 0
        result1 := 0 })

/-- R80: START after START and STOP after STOP change nothing. -/
def Obligations.StartAndStopAreIdempotent : Prop :=
  ∀ s t : State,
    (exec .start s = .next t → exec .start t = .next t) ∧ (exec .stop s = .next t → exec .stop t = .next t)

/-- R75: an enabled BEAT delivers the active slot's next frame and advances. -/
def Obligations.BeatDeliversTheNextFrame : Prop :=
  ∀ (s : State) (f : Frame) (rest : List Input), s.params.wf = true → s.inputs = .beat :: rest →
    s.armed = true → s.clkEn = true → s.xferPos < s.params.q →
    (slotFrames s s.active)[s.xferPos]? = some f →
      step s = .next { s with inputs := rest, out := s.out ++ [f], xferPos := s.xferPos + 1 }

/-- R76: an enabled COMPLETE raises the completion signal. -/
def Obligations.CompleteRaisesTheSignal : Prop :=
  ∀ (s : State) (rest : List Input), s.params.wf = true → s.inputs = .complete :: rest →
    s.armed = true → s.xferPos = s.params.q →
      step s = .next { s with inputs := rest, armed := false, pending := true }

/-- R77: an enabled SERVICE swaps the slots, refills the newly idle one from the ring, or silences it and counts one
underrun without draining, and re-arms. -/
def Obligations.ServiceSwapsRefillsAndRearms : Prop :=
  ∀ (s : State) (rest : List Input), s.params.wf = true → s.inputs = .service :: rest →
    s.pending = true → s.irqEn = true → s.state = .streaming →
    (s.params.q ≤ s.count →
      step s = .next { s with
        inputs := rest
        pending := false
        active := otherSlot s.active
        slot0 := if s.active = .zero then
            (List.range s.params.q).map (fun i => ringRead s (s.ridx + i)) else s.slot0
        slot1 := if s.active = .one then
            (List.range s.params.q).map (fun i => ringRead s (s.ridx + i)) else s.slot1
        ridx := (s.ridx + s.params.q) % s.params.c
        count := s.count - s.params.q
        armed := true
        xferPos := 0 }) ∧
    (s.count < s.params.q →
      step s = .next { s with
        inputs := rest
        pending := false
        active := otherSlot s.active
        slot0 := if s.active = .zero then List.replicate s.params.q 0 else s.slot0
        slot1 := if s.active = .one then List.replicate s.params.q 0 else s.slot1
        underrun := if s.underrun = 0xFFFFFFFF then s.underrun else s.underrun + 1
        armed := true
        xferPos := 0 })

/-- The model's choice (log 6), beside R75, R76 and R77: an engine or arbiter step offered when it is not enabled
changes nothing but the list of inputs. -/
def Obligations.DisabledEventsChangeNothing : Prop :=
  ∀ (s : State) (i : Input) (rest : List Input), s.params.wf = true → s.inputs = i :: rest →
    ((i = .beat ∧ ¬(s.armed = true ∧ s.clkEn = true ∧ s.xferPos < s.params.q)) ∨
      (i = .complete ∧ ¬(s.armed = true ∧ s.xferPos = s.params.q)) ∨
      (i = .service ∧ ¬(s.pending = true ∧ s.irqEn = true ∧ s.state = .streaming))) →
      step s = .next { s with inputs := rest }

/-- R55: while a transfer stays armed, no step touches the slot the engine is reading, nor which slot that is. -/
def Obligations.ArmedSlotIsNotWritten : Prop :=
  ∀ s t : State, Inv s → s.armed = true → step s = .next t → t.armed = true →
    t.active = s.active ∧ slotFrames t t.active = slotFrames s s.active

/-- R18: the scheduler's transitions, and no other. -/
def Obligations.SchedulerTransitions : Prop :=
  ∀ s t : State, step s = .next t →
    (t.state = s.state) ∨
    (s.state = .uninit ∧ issued s.params (nextInput s) = some .init ∧ t.state = .idle) ∨
    ((s.state = .idle ∨ s.state = .stopped) ∧ issued s.params (nextInput s) = some .start ∧
      t.state = .streaming) ∨
    (s.state = .streaming ∧
      (issued s.params (nextInput s) = some .stop ∨ issued s.params (nextInput s) = some .clear) ∧
      t.state = .stopped) ∨
    (nextInput s = .reset ∧ t.state = .uninit)

/-- R75 to R77 together: from an armed transfer at its first frame, `@QUANTUM` emits the active slot, all of it and in
order, hands over to the other slot, whose frames it does not touch, and leaves in the drained slot the next quantum of
the ring or silence. -/
def Obligations.QuantumEmitsTheActiveSlot : Prop :=
  ∀ (s : State) (rest : List Input), Inv s → s.armed = true → s.xferPos = 0 →
    s.inputs = asmQuantum s.params ++ rest →
    ∃ t, runs (s.params.q + 2) s = .next t ∧ Inv t ∧ t.inputs = rest ∧ t.params = s.params ∧
      t.out = s.out ++ slotFrames s s.active ∧
      t.active = otherSlot s.active ∧ t.armed = true ∧ t.xferPos = 0 ∧
      slotFrames t t.active = slotFrames s (otherSlot s.active) ∧
      slotFrames t s.active =
        (if s.params.q ≤ s.count then (buffered s).take s.params.q else List.replicate s.params.q 0) ∧
      buffered t = (if s.params.q ≤ s.count then (buffered s).drop s.params.q else buffered s) ∧
      t.underrun = (if s.params.q ≤ s.count then s.underrun else satInc32 s.underrun)

/-- R81, for an episode without WRITEs: START and then `n` quanta put out `F0`, then slot 1 as START found it, then the
refills, and nothing else. -/
def Obligations.EpisodeOutput : Prop :=
  ∀ (s : State) (n : Nat) (rest : List Input), Inv s → s.state = .idle ∨ s.state = .stopped →
    s.inputs = asmStart s.params ++ asmQuanta s.params n ++ rest →
    ∃ t, runs (1 + n * (s.params.q + 2)) s = .next t ∧ t.inputs = rest ∧ t.state = .streaming ∧
      t.armed = true ∧ t.xferPos = 0 ∧
      t.out = s.out ++ (List.range n).flatMap (episodeQuantum s)

/-- R82: in an episode without WRITEs the SERVICEs take a quantum each while the ring holds one, every later SERVICE is
an underrun, and START counts none. -/
def Obligations.EpisodeUnderruns : Prop :=
  ∀ (s : State) (n left : Nat) (rest : List Input), Inv s → s.state = .idle ∨ s.state = .stopped →
    s.inputs = asmStart s.params ++ asmQuanta s.params n ++ rest →
    left = s.count - min s.count s.params.q →
    ∃ t, runs (1 + n * (s.params.q + 2)) s = .next t ∧
      t.count = left - min n (left / s.params.q) * s.params.q ∧
      t.underrun.toNat = min 0xFFFFFFFF (s.underrun.toNat + (n - left / s.params.q))

/-- R114, the odd case: a STOP while slot 1 is being read, then START and two quanta, emits the new first quantum and
then the aborted quantum from its first frame again. -/
def Obligations.StopThenStartReplaysSlotOne : Prop :=
  ∀ (s : State) (rest : List Input), Inv s → s.state = .streaming → s.active = .one →
    s.inputs = asmStop s.params ++ asmStart s.params ++ asmQuanta s.params 2 ++ rest →
    ∃ t, runs (2 + 2 * (s.params.q + 2)) s = .next t ∧
      t.out = s.out ++ firstQuantum s ++ slotFrames s s.active

/-- R48 as a premise, bounded: while a streaming block is never stopped and is offered `k * (Q + 2)` fair stretches of
inputs, whatever else happens in them, at least `k` whole quanta of frames come out ("the engine runs until explicitly
stopped"). That an event offered when it is not enabled changes nothing is the model's choice (log 6). -/
def Obligations.FairStretchesKeepEmitting : Prop :=
  ∀ (s : State) (rounds : List (List Input)) (rest : List Input) (k : Nat), Inv s → s.state = .streaming →
    s.inputs = rounds.flatten ++ rest →
    (∀ r ∈ rounds, fairRound r) → (∀ i ∈ rounds.flatten, keepsStreaming s.params i) →
    k * (s.params.q + 2) ≤ rounds.length →
    ∃ t, runs rounds.flatten.length s = .next t ∧ t.state = .streaming ∧
      s.out.length + k * s.params.q ≤ t.out.length

/-! ### The order of steps -/

/-- R101: STOP before a pending SERVICE discards the completion; SERVICE before STOP does not. In the first order R101
says that no SERVICE follows: the SERVICE offered after STOP is not enabled, and that it is then a step which changes
nothing is the model's choice (log 6). In the second, what SERVICE puts in the slot is `ServiceSwapsRefillsAndRearms`. -/
def Obligations.StopAndServiceDoNotCommute : Prop :=
  ∀ (s : State) (rest : List Input), Inv s → s.pending = true →
    (s.inputs = asmStop s.params ++ [.service] ++ rest →
      ∃ t, runs 2 s = .next t ∧ t.state = .stopped ∧ t.active = s.active ∧ t.count = s.count ∧
        t.underrun = s.underrun ∧ t.slot0 = s.slot0 ∧ t.slot1 = s.slot1) ∧
    (s.inputs = [.service] ++ asmStop s.params ++ rest →
      ∃ t, runs 2 s = .next t ∧ t.state = .stopped ∧ t.active = otherSlot s.active ∧
        (s.params.q ≤ s.count → t.count = s.count - s.params.q ∧ t.underrun = s.underrun) ∧
        (s.count < s.params.q → t.count = s.count ∧ t.underrun = satInc32 s.underrun))

/-- R101: a WRITE before a pending SERVICE can turn the underrun into a refill. -/
def Obligations.WriteBeforeServiceAvoidsTheUnderrun : Prop :=
  ∀ (s : State) (rest : List Input), Inv s → s.pending = true → writeInvalid s = false →
    s.count < s.params.q → s.params.q ≤ s.count + writeAccepted s →
    (s.inputs = [csrw s.params 0 (encode .write), .service] ++ rest →
      ∃ t, runs 2 s = .next t ∧ t.underrun = s.underrun ∧
        slotFrames t s.active = (buffered s ++ writeFrames s).take s.params.q) ∧
    (s.inputs = [.service, csrw s.params 0 (encode .write)] ++ rest →
      ∃ t, runs 2 s = .next t ∧ t.underrun = satInc32 s.underrun ∧
        slotFrames t s.active = List.replicate s.params.q 0)

/-- R101: an enabled BEAT and a command that is neither STOP nor CLEAR commute. -/
def Obligations.BeatCommutesWithCommands : Prop :=
  ∀ (s t : State) (i : Instr), Inv s → beatEnabled s = true → i ≠ .stop → i ≠ .clear →
    exec i s = .next t → exec i (beat s) = .next (beat t)

/-! ### The CSR window and host memory -/

/-- R91: an admitted CSR read returns the register and changes no element of the block. -/
def Obligations.CsrReadReturnsTheRegister : Prop :=
  ∀ (s : State) (off : Nat) (v : Word) (rest : List Input), s.params.wf = true →
    s.inputs = .busRead (s.params.csrBase + BitVec.ofNat 32 off) 4 :: rest →
    ((off, v) ∈ [(0x00, 0), (0x04, s.arg0), (0x08, s.arg1), (0x0C, s.arg2), (0x10, s.result0), (0x14, s.result1),
        (0x18, statusWord s), (0x1C, BitVec.ofNat 32 s.count), (0x20, BitVec.ofNat 32 (s.params.c - s.count)),
        (0x24, BitVec.ofNat 32 s.widx), (0x28, BitVec.ofNat 32 s.ridx), (0x2C, s.underrun), (0x30, s.overrun),
        (0x34, s.sampleRate), (0x38, s.bclkHz), (0x3C, s.divInt ++ s.divFrac ++ (0 : BitVec 8)),
        (0x40, BitVec.ofNat 32 s.params.c), (0x44, BitVec.ofNat 32 s.params.q)] ∨
      (off % 4 = 0 ∧ 0x48 ≤ off ∧ off ≤ 0xFC ∧ v = 0)) →
      step s = .next { s with inputs := rest, readData := v }

/-- R20: the layout of STATUS, and its reset value. -/
def Obligations.StatusLayout : Prop :=
  (∀ s : State,
    (((statusWord s).extractLsb' 0 2).toNat =
      match s.state with | .uninit => 0 | .idle => 1 | .streaming => 2 | .stopped => 3) ∧
    (statusWord s).getLsbD 2 = decide (s.active = .one) ∧
    (statusWord s).getLsbD 3 = s.playing ∧
    (statusWord s).getLsbD 4 = s.armed ∧
    (statusWord s).getLsbD 5 = s.pending ∧
    (statusWord s).getLsbD 6 = s.clkEn ∧
    (statusWord s).getLsbD 7 = s.irqEn ∧
    (((statusWord s).extractLsb' 8 4).toNat =
      match s.err with
      | .ok => 0 | .cfgFormat => 1 | .cfgReinit => 2 | .cfgRate => 3 | .cfgResource => 4 | .notInit => 5
      | .illegalCmd => 6) ∧
    (statusWord s).extractLsb' 12 20 = 0) ∧
  (∀ p : Config.Params, statusWord (State.powerOn p) = 0)

/-- R92: an admitted CSR write stores into ARG0 to ARG2, runs a command at CMD, and is ignored elsewhere. -/
def Obligations.CsrWriteEffects : Prop :=
  ∀ (s : State) (off : Nat) (v : Word) (rest : List Input), s.params.wf = true →
    s.inputs = .busWrite (s.params.csrBase + BitVec.ofNat 32 off) 4 v :: rest →
    (off = 0x00 → step s = execute v { s with inputs := rest }) ∧
    (off = 0x04 → step s = .next { s with inputs := rest, arg0 := v }) ∧
    (off = 0x08 → step s = .next { s with inputs := rest, arg1 := v }) ∧
    (off = 0x0C → step s = .next { s with inputs := rest, arg2 := v }) ∧
    (off % 4 = 0 → 0x10 ≤ off → off ≤ 0xFC → step s = .next { s with inputs := rest })

/-- A CSR access of another width or at a misaligned offset (R41), or beyond offset 0xFC (R91, R92), is refused. The
offset is the address less CSR_BASE modulo `2^32`, which is the model's reading (log 10, DEDUCED). -/
def Obligations.OddCsrAccessIsRefused : Prop :=
  ∀ (s : State) (addr : Addr) (size : Nat) (rest : List Input), s.params.wf = true →
    (size ≠ 4 ∨ (addr - s.params.csrBase).toNat % 4 ≠ 0 ∨ 0xFC < (addr - s.params.csrBase).toNat) →
    (s.inputs = .busRead addr size :: rest → step s = .refused .csrAccess) ∧
    (∀ v, s.inputs = .busWrite addr size v :: rest → step s = .refused .csrAccess)

/-- R38, R39: a frame of host memory is little-endian, left sample in the low half. -/
def Obligations.FramesAreLittleEndian : Prop :=
  ∀ (m : Memory) (a : Addr),
    leftSample (memRead m a) = m.read (a + 1).toNat ++ m.read a.toNat ∧
    rightSample (memRead m a) = m.read (a + 3).toNat ++ m.read (a + 2).toNat

/-- R38, R53, log 8: a change of host memory changes that byte, no other byte, and nothing of the block. -/
def Obligations.HostStoreChangesOneByte : Prop :=
  ∀ (s : State) (addr : Addr) (v : Byte) (rest : List Input), Inv s →
    s.inputs = .hostStore addr v :: rest →
    ∃ t, step s = .next t ∧ t = { s with inputs := rest, hostMem := t.hostMem } ∧
      t.hostMem.read addr.toNat = v ∧
      (∀ b, b ≠ addr.toNat → t.hostMem.read b = s.hostMem.read b)

/-! ### Errors -/

/-- R96: the commands UNINIT refuses, and those it runs. -/
def Obligations.UninitGuard : Prop :=
  ∀ s : State, s.state = .uninit →
    (∀ i ∈ [Instr.write, .start, .stop, .clear],
      exec i s = .next { s with err := .notInit, result0 := 0, result1 := 0 }) ∧
    (∀ i ∈ [Instr.init, .getFreeSpace, .getBufferedCount, .getStats],
      ∃ t, exec i s = .next t ∧ t.err ≠ .notInit)

/-- R95: a command that ends in an error writes the outcome and zero results and nothing else of the block (the model's
own draw of a claim aside). -/
def Obligations.FailureIsPrecise : Prop :=
  ∀ (i : Instr) (s t : State), exec i s = .next t → t.err ≠ .ok →
    t = { s with err := t.err, result0 := 0, result1 := 0, claims := t.claims, draws := t.draws }

/-- R94, R95: no command stops the block. -/
def Obligations.EveryCommandEnds : Prop :=
  ∀ (i : Instr) (s : State), ∃ t, exec i s = .next t

/-- R15, R37, R45: what no command changes: the operands, OUT, every byte of host memory, the parameters, the inputs to
come and the host's last read. -/
def Obligations.CommandFrame : Prop :=
  ∀ (i : Instr) (s t : State), exec i s = .next t →
    t.arg0 = s.arg0 ∧ t.arg1 = s.arg1 ∧ t.arg2 = s.arg2 ∧ t.out = s.out ∧
    (∀ a, t.hostMem.read a = s.hostMem.read a) ∧ t.params = s.params ∧ t.inputs = s.inputs ∧
    t.readData = s.readData

/-- R103: the outcome is not sticky, and only a command or reset writes it. -/
def Obligations.OutcomeIsOverwritten : Prop :=
  (∀ (i : Instr) (s : State) (e : ErrCode), exec i { s with err := e } = exec i s) ∧
  (∀ s t : State, step s = .next t → isCmdWrite s.params (nextInput s) = false → nextInput s ≠ .reset →
    t.err = s.err ∧ t.result0 = s.result0 ∧ t.result1 = s.result1)

/-! ### Counters, configuration, output -/

/-- R9: `sat_inc32`. -/
def Obligations.CountersSaturate : Prop :=
  ∀ x : Word, (satInc32 x).toNat = min (x.toNat + 1) 0xFFFFFFFF

/-- R30: a counter rises by one, by SERVICE or WRITE alone, and falls, to zero, by INIT or reset alone. -/
def Obligations.CounterDiscipline : Prop :=
  ∀ s t : State, step s = .next t →
    (s.underrun.toNat < t.underrun.toNat →
      nextInput s = .service ∧ s.count < s.params.q ∧ t.underrun.toNat = s.underrun.toNat + 1) ∧
    (t.underrun.toNat < s.underrun.toNat →
      (nextInput s = .reset ∨ issued s.params (nextInput s) = some .init) ∧ t.underrun = 0) ∧
    (s.overrun.toNat < t.overrun.toNat →
      issued s.params (nextInput s) = some .write ∧ t.overrun.toNat = s.overrun.toNat + 1) ∧
    (t.overrun.toNat < s.overrun.toNat →
      (nextInput s = .reset ∨ issued s.params (nextInput s) = some .init) ∧ t.overrun = 0)

/-- R31: the configuration is what `divisor` gave for the stored rate, and once initialised only reset changes it. -/
def Obligations.ConfigurationStands : Prop :=
  (∀ s : State, Reachable s → s.state ≠ .uninit →
    divisor s.params s.sampleRate.toNat = some { bclk := s.bclkHz, dint := s.divInt, dfrac := s.divFrac }) ∧
  (∀ s t : State, step s = .next t → s.state ≠ .uninit → nextInput s ≠ .reset →
    t.sampleRate = s.sampleRate ∧ t.bclkHz = s.bclkHz ∧ t.divInt = s.divInt ∧ t.divFrac = s.divFrac)

/-- R45: an enabled BEAT appends one frame to OUT, nothing else changes OUT, and no step's effect depends on what OUT
holds. -/
def Obligations.OutIsWrittenByBeatAndNeverRead : Prop :=
  (∀ s t : State, step s = .next t →
    t.out = if nextInput s = .beat ∧ beatEnabled s = true then s.out ++ [slotRead s s.active s.xferPos]
      else s.out) ∧
  (∀ (s t : State) (earlier : List Frame), step s = .next t →
    step { s with out := earlier ++ s.out } = .next { t with out := earlier ++ t.out })

/-- The writers of the scheduler's, the ring's, the slots' and the engine's elements, of the counters, of ARG0 to ARG2
and of host memory. The commands and events are those of R14 and R50. Reset stands beside them for RING, the slots,
`widx`, `ridx` and `count`, which R14's table does not give it: that is R36 and R110 (RING and SLOT are left open there
and drawn freely in the model, log 3). The other elements are not here: the configuration is `ConfigurationStands`,
the results and the outcome `OutcomeIsOverwritten`, OUT `OutIsWrittenByBeatAndNeverRead`. -/
def Obligations.WritersOfTheState : Prop :=
  ∀ s t : State, Inv s → step s = .next t →
    (t.state ≠ s.state → WrittenBy s.params (nextInput s) [.init, .start, .stop, .clear] [.reset]) ∧
    (t.playing ≠ s.playing → WrittenBy s.params (nextInput s) [.init, .start, .stop, .clear] [.reset]) ∧
    (t.ring ≠ s.ring → WrittenBy s.params (nextInput s) [.write, .init, .clear] [.reset]) ∧
    (t.widx ≠ s.widx → WrittenBy s.params (nextInput s) [.write, .init, .clear] [.reset]) ∧
    (t.ridx ≠ s.ridx → WrittenBy s.params (nextInput s) [.start, .init, .clear] [.service, .reset]) ∧
    (t.count ≠ s.count → WrittenBy s.params (nextInput s) [.write, .start, .init, .clear] [.service, .reset]) ∧
    (t.slot0 ≠ s.slot0 → WrittenBy s.params (nextInput s) [.start, .init, .clear] [.service, .reset]) ∧
    (t.slot1 ≠ s.slot1 → WrittenBy s.params (nextInput s) [.init, .clear] [.service, .reset]) ∧
    (t.active ≠ s.active → WrittenBy s.params (nextInput s) [.start, .init] [.service, .reset]) ∧
    (t.armed ≠ s.armed →
      WrittenBy s.params (nextInput s) [.start, .stop, .clear, .init] [.service, .complete, .reset]) ∧
    (t.xferPos ≠ s.xferPos →
      WrittenBy s.params (nextInput s) [.start, .stop, .clear, .init] [.beat, .service, .reset]) ∧
    (t.pending ≠ s.pending →
      WrittenBy s.params (nextInput s) [.stop, .clear, .init] [.complete, .service, .reset]) ∧
    (t.clkEn ≠ s.clkEn → WrittenBy s.params (nextInput s) [.start, .stop, .clear, .init] [.reset]) ∧
    (t.irqEn ≠ s.irqEn → WrittenBy s.params (nextInput s) [.init] [.reset]) ∧
    (t.underrun ≠ s.underrun → WrittenBy s.params (nextInput s) [.init] [.service, .reset]) ∧
    (t.overrun ≠ s.overrun → WrittenBy s.params (nextInput s) [.write, .init] [.reset]) ∧
    (t.arg0 ≠ s.arg0 ∨ t.arg1 ≠ s.arg1 ∨ t.arg2 ≠ s.arg2 →
      (∃ a v, nextInput s = .busWrite a 4 v ∧ csrOffset s.params a 4 ≠ some 0) ∨ nextInput s = .reset) ∧
    (t.hostMem ≠ s.hostMem → ∃ a v, nextInput s = .hostStore a v) ∧
    t.params = s.params

/-! ### Reset and invariants -/

/-- R36: the power-on values the spec gives. (RING and SLOT are unspecified there; what `State.reset` holds in them is
the model's choice, log 2, and is not stated.) -/
def Obligations.PowerOnValues : Prop :=
  ∀ p : Config.Params, ∀ s : State, s = State.powerOn p →
    s.state = .uninit ∧ s.playing = false ∧ s.active = .zero ∧ s.armed = false ∧ s.pending = false ∧
    s.clkEn = false ∧ s.irqEn = false ∧ s.widx = 0 ∧ s.ridx = 0 ∧ s.count = 0 ∧ s.xferPos = 0 ∧
    s.underrun = 0 ∧ s.overrun = 0 ∧ s.sampleRate = 0 ∧ s.bclkHz = 0 ∧ s.divInt = 0 ∧ s.divFrac = 0 ∧
    s.arg0 = 0 ∧ s.arg1 = 0 ∧ s.arg2 = 0 ∧ s.result0 = 0 ∧ s.result1 = 0 ∧ s.err = .ok ∧ s.out = []

/-- R110: the reset input, at any step: every element at its reset value, RING and SLOT of their sizes, OUT, host memory
and the parameters kept. -/
def Obligations.ResetInputEffect : Prop :=
  ∀ (s : State) (rest : List Input), s.params.wf = true → s.inputs = .reset :: rest →
    ∃ t, step s = .next t ∧
      t.state = .uninit ∧ t.playing = false ∧ t.active = .zero ∧ t.armed = false ∧ t.pending = false ∧
      t.clkEn = false ∧ t.irqEn = false ∧ t.widx = 0 ∧ t.ridx = 0 ∧ t.count = 0 ∧ t.xferPos = 0 ∧
      t.underrun = 0 ∧ t.overrun = 0 ∧ t.sampleRate = 0 ∧ t.bclkHz = 0 ∧ t.divInt = 0 ∧ t.divFrac = 0 ∧
      t.arg0 = 0 ∧ t.arg1 = 0 ∧ t.arg2 = 0 ∧ t.result0 = 0 ∧ t.result1 = 0 ∧ t.err = .ok ∧
      t.ring.length = s.params.c ∧ t.slot0.length = s.params.q ∧ t.slot1.length = s.params.q ∧
      t.out = s.out ∧ t.hostMem = s.hostMem ∧ t.params = s.params

/-- Every power-on state meets the invariant, `State.reset` among them. -/
def Obligations.PowerOnMeetsTheInvariant : Prop :=
  (∀ s : State, PowerOn s → Inv s) ∧ PowerOn State.reset

/-- The invariant of 10_state.md section 9 is kept by every step, from every state that meets it. -/
def Obligations.StepKeepsTheInvariant : Prop :=
  ∀ s t : State, Inv s → step s = .next t → Inv t

/-- Of every reachable state, written out: the bound on the count (R32), the indices, in UNINIT too (R33), `playing`
exactly when streaming (R19), and the rules for armed, pending, the clock and the position (R34). -/
def Obligations.ReachableStatesMeetTheRules : Prop :=
  ∀ s : State, Reachable s →
    s.count ≤ s.params.c ∧ s.widx = (s.ridx + s.count) % s.params.c ∧
    (s.playing = true ↔ s.state = .streaming) ∧
    (s.state = .streaming →
      ((s.armed = true ∧ s.pending = false) ∨ (s.armed = false ∧ s.pending = true)) ∧ s.clkEn = true) ∧
    (s.state ≠ .streaming → s.armed = false ∧ s.pending = false ∧ s.clkEn = false ∧ s.xferPos = 0) ∧
    (s.armed = true → s.xferPos ≤ s.params.q) ∧
    (s.pending = true → s.xferPos = s.params.q) ∧
    (s.state = .uninit → s.widx = 0 ∧ s.ridx = 0 ∧ s.count = 0)

/-- R35: in UNINIT, every element that has a reset value holds it, but for the operands, the results and the outcome. -/
def Obligations.UninitHoldsResetValues : Prop :=
  ∀ s : State, Reachable s → s.state = .uninit →
    s.irqEn = false ∧ s.playing = false ∧ s.widx = 0 ∧ s.ridx = 0 ∧ s.count = 0 ∧ s.active = .zero ∧
    s.armed = false ∧ s.xferPos = 0 ∧ s.pending = false ∧ s.clkEn = false ∧ s.underrun = 0 ∧ s.overrun = 0 ∧
    s.sampleRate = 0 ∧ s.bclkHz = 0 ∧ s.divInt = 0 ∧ s.divFrac = 0

/-- What the external collaborators see of a reachable block, through the model's own views `generatorEnabled`,
`generatorConfig` and `armedTransfer` (log 16, DEDUCED): the generator is enabled exactly while streaming (R89 b, R34);
it has been given the exact divisor (R86, R31) and the pins (R89 a); an armed transfer is the active slot, `Q` frames,
to `DEST` (R25). That nothing is shown as configured in UNINIT, after a reset too, is the model's choice (log 16). -/
def Obligations.CollaboratorContract : Prop :=
  ∀ s : State, Reachable s →
    (generatorEnabled s = true ↔ s.state = .streaming) ∧
    (generatorConfig s = none ↔ s.state = .uninit) ∧
    (∀ g, generatorConfig s = some g → g.pins = s.params.pinAssignment ∧
      g.divisor256 = s.params.sysClkHz * 256 / (s.sampleRate.toNat * 16 * 2 * s.params.edgeFactor)) ∧
    (∀ x, armedTransfer s = some x ↔
      s.armed = true ∧ x = { buffer := s.active, length := s.params.q, destination := s.params.dest })

/-! ### The assembler notation -/

/-- R65, R61: the expansions of `INIT rate, bits, ch` and `WRITE src, n` set the operands and run the command. -/
def Obligations.PseudoInstructionsRunTheirCommands : Prop :=
  (∀ (s : State) (rate bits ch : Word) (rest : List Input), s.params.wf = true →
    s.inputs = asmInit s.params rate bits ch ++ rest →
      runs 4 s = exec .init { s with inputs := rest, arg0 := rate, arg1 := bits, arg2 := ch }) ∧
  (∀ (s : State) (src n : Word) (rest : List Input), s.params.wf = true →
    s.inputs = asmWrite s.params src n ++ rest →
      runs 3 s = exec .write { s with inputs := rest, arg0 := n, arg1 := src })
end

