-- ==== Sys2Proof/Laws/Memory.lean ====
section
/-! SUPPORT. Host memory: read after write, and the canonical form. -/

namespace Sys2Proof.Machine

@[simp] theorem Memory.read_nil (a : Nat) : Memory.read [] a = unlistedByte := rfl

@[simp] theorem Memory.read_cons (b : Nat) (v : Byte) (m : Memory) (a : Nat) :
    Memory.read ((b, v) :: m) a = if b = a then v else Memory.read m a := rfl

theorem Memory.wfFrom_cons {lo a : Nat} {v : Byte} {m : Memory} :
    Memory.wfFrom lo ((a, v) :: m) = true ↔
      lo ≤ a ∧ a < 2 ^ 32 ∧ v ≠ unlistedByte ∧ Memory.wfFrom (a + 1) m = true := by
  simp [Memory.wfFrom, and_assoc]

theorem Memory.wfFrom_mono {lo hi : Nat} {m : Memory} (h : lo ≤ hi) (hm : Memory.wfFrom hi m = true) :
    Memory.wfFrom lo m = true := by
  cases m with
  | nil => rfl
  | cons e m =>
    obtain ⟨a, v⟩ := e
    rw [Memory.wfFrom_cons] at hm ⊢
    exact ⟨by omega, hm.2⟩

/-- Below the first address of a canonical memory nothing is listed. -/
theorem Memory.read_below {lo a : Nat} {m : Memory} (hm : Memory.wfFrom lo m = true) (h : a < lo) :
    Memory.read m a = unlistedByte := by
  induction m generalizing lo with
  | nil => rfl
  | cons e m ih =>
    obtain ⟨b, v⟩ := e
    rw [Memory.wfFrom_cons] at hm
    have hb : b ≠ a := by omega
    simp [hb, ih hm.2.2.2 (by omega)]

/-- Read after write: the written byte reads as written and every other byte as before. -/
theorem Memory.read_write {lo : Nat} {m : Memory} (hm : Memory.wfFrom lo m = true) (a : Nat) (v : Byte) (b : Nat) :
    (Memory.write m a v).read b = if b = a then v else m.read b := by
  induction m generalizing lo with
  | nil =>
    unfold Memory.write
    by_cases h3 : v = unlistedByte <;> by_cases h4 : a = b
    · simp [h3]
    · simp [h3]
    · simp [h3, h4]
    · have : b ≠ a := fun h => h4 h.symm
      simp [h3, h4, this]
  | cons e m ih =>
    obtain ⟨c, w⟩ := e
    rw [Memory.wfFrom_cons] at hm
    have hlow := fun x (hx : x < c + 1) => Memory.read_below hm.2.2.2 hx
    unfold Memory.write
    by_cases h1 : c < a
    · have hca : c ≠ a := by omega
      simp only [h1, if_true, Memory.read_cons, ih hm.2.2.2]
      by_cases h2 : c = b
      · subst h2; simp [hca]
      · simp [h2]
    · by_cases h2 : c = a
      · subst h2
        by_cases h3 : v = unlistedByte <;> by_cases h4 : b = c
        · subst h4; simp [h3, hlow b (by omega)]
        · have : c ≠ b := fun h => h4 h.symm
          simp [h3, h4, this]
        · subst h4; simp [h3]
        · have : c ≠ b := fun h => h4 h.symm
          simp [h3, h4, this]
      · by_cases h3 : v = unlistedByte <;> by_cases h4 : b = a
        · subst h4; simp [h1, h2, h3, hlow b (by omega)]
        · simp [h1, h2, h3, h4]
        · subst h4; simp [h1, h2, h3]
        · have : a ≠ b := fun h => h4 h.symm
          simp [h1, h2, h3, h4, this]

theorem Memory.write_wfFrom {lo : Nat} {m : Memory} (hm : Memory.wfFrom lo m = true) {a : Nat} (hlo : lo ≤ a)
    (ha : a < 2 ^ 32) (v : Byte) : Memory.wfFrom lo (Memory.write m a v) = true := by
  induction m generalizing lo with
  | nil =>
    unfold Memory.write
    split
    · rfl
    · rename_i h
      exact Memory.wfFrom_cons.mpr ⟨hlo, ha, h, rfl⟩
  | cons e m ih =>
    obtain ⟨c, w⟩ := e
    have hm' := Memory.wfFrom_cons.mp hm
    unfold Memory.write
    split
    · exact Memory.wfFrom_cons.mpr ⟨hm'.1, hm'.2.1, hm'.2.2.1, ih hm'.2.2.2 (by omega)⟩
    · split
      · rename_i h1 h2
        subst h2
        split
        · exact Memory.wfFrom_mono (by omega) hm'.2.2.2
        · rename_i h3
          exact Memory.wfFrom_cons.mpr ⟨hlo, ha, h3, hm'.2.2.2⟩
      · split
        · exact hm
        · rename_i h1 h2 h3
          exact Memory.wfFrom_cons.mpr
            ⟨hlo, ha, h3, Memory.wfFrom_cons.mpr ⟨by omega, hm'.2.1, hm'.2.2.1, hm'.2.2.2⟩⟩

/-- A write of one byte keeps the canonical form. -/
theorem Memory.write_wf {m : Memory} (hm : m.wf = true) (a : Addr) (v : Byte) :
    (m.write a.toNat v).wf = true :=
  Memory.write_wfFrom hm (Nat.zero_le _) a.isLt v

theorem Memory.read_write_of_wf {m : Memory} (hm : m.wf = true) (a b : Nat) (v : Byte) :
    (m.write a v).read b = if b = a then v else m.read b :=
  Memory.read_write hm a v b

/-- Two canonical memories that read alike everywhere are the same list. -/
theorem Memory.eq_of_read {lo : Nat} {m n : Memory} (hm : Memory.wfFrom lo m = true) (hn : Memory.wfFrom lo n = true)
    (h : ∀ a, m.read a = n.read a) : m = n := by
  induction m generalizing n lo with
  | nil =>
    cases n with
    | nil => rfl
    | cons e n =>
      obtain ⟨b, w⟩ := e
      exact absurd (h b).symm (by simpa using (Memory.wfFrom_cons.mp hn).2.2.1)
  | cons e m ih =>
    obtain ⟨a, v⟩ := e
    have hm' := Memory.wfFrom_cons.mp hm
    cases n with
    | nil => exact absurd (h a) (by simpa using hm'.2.2.1)
    | cons e n =>
      obtain ⟨b, w⟩ := e
      have hn' := Memory.wfFrom_cons.mp hn
      have hab : a = b := by
        rcases Nat.lt_trichotomy a b with hlt | heq | hgt
        · have := h a
          rw [Memory.read_below (Memory.wfFrom_cons.mpr ⟨le_refl b, hn'.2⟩) hlt] at this
          exact absurd this (by simpa using hm'.2.2.1)
        · exact heq
        · have := h b
          rw [Memory.read_below (Memory.wfFrom_cons.mpr ⟨le_refl a, hm'.2⟩) hgt] at this
          exact absurd this.symm (by simpa using hn'.2.2.1)
      subst hab
      have hvw : v = w := by simpa using h a
      subst hvw
      rw [ih hm'.2.2.2 hn'.2.2.2]
      intro x
      by_cases hx : a = x
      · subst hx
        rw [Memory.read_below hm'.2.2.2 (by omega), Memory.read_below hn'.2.2.2 (by omega)]
      · simpa [hx] using h x

end Sys2Proof.Machine
end

