-- ==== Sys2Proof/Laws/State.lean ====
section
/-! SUPPORT. One lemma per field per named state update. -/

namespace Sys2Proof.Machine

/-! ### `fail` -/

@[simp] theorem fail_params (c : ErrCode) (s : State) : (fail c s).params = s.params := rfl
@[simp] theorem fail_state (c : ErrCode) (s : State) : (fail c s).state = s.state := rfl
@[simp] theorem fail_playing (c : ErrCode) (s : State) : (fail c s).playing = s.playing := rfl
@[simp] theorem fail_ring (c : ErrCode) (s : State) : (fail c s).ring = s.ring := rfl
@[simp] theorem fail_widx (c : ErrCode) (s : State) : (fail c s).widx = s.widx := rfl
@[simp] theorem fail_ridx (c : ErrCode) (s : State) : (fail c s).ridx = s.ridx := rfl
@[simp] theorem fail_count (c : ErrCode) (s : State) : (fail c s).count = s.count := rfl
@[simp] theorem fail_slot0 (c : ErrCode) (s : State) : (fail c s).slot0 = s.slot0 := rfl
@[simp] theorem fail_slot1 (c : ErrCode) (s : State) : (fail c s).slot1 = s.slot1 := rfl
@[simp] theorem fail_active (c : ErrCode) (s : State) : (fail c s).active = s.active := rfl
@[simp] theorem fail_armed (c : ErrCode) (s : State) : (fail c s).armed = s.armed := rfl
@[simp] theorem fail_xferPos (c : ErrCode) (s : State) : (fail c s).xferPos = s.xferPos := rfl
@[simp] theorem fail_pending (c : ErrCode) (s : State) : (fail c s).pending = s.pending := rfl
@[simp] theorem fail_clkEn (c : ErrCode) (s : State) : (fail c s).clkEn = s.clkEn := rfl
@[simp] theorem fail_irqEn (c : ErrCode) (s : State) : (fail c s).irqEn = s.irqEn := rfl
@[simp] theorem fail_underrun (c : ErrCode) (s : State) : (fail c s).underrun = s.underrun := rfl
@[simp] theorem fail_overrun (c : ErrCode) (s : State) : (fail c s).overrun = s.overrun := rfl
@[simp] theorem fail_sampleRate (c : ErrCode) (s : State) : (fail c s).sampleRate = s.sampleRate := rfl
@[simp] theorem fail_bclkHz (c : ErrCode) (s : State) : (fail c s).bclkHz = s.bclkHz := rfl
@[simp] theorem fail_divInt (c : ErrCode) (s : State) : (fail c s).divInt = s.divInt := rfl
@[simp] theorem fail_divFrac (c : ErrCode) (s : State) : (fail c s).divFrac = s.divFrac := rfl
@[simp] theorem fail_arg0 (c : ErrCode) (s : State) : (fail c s).arg0 = s.arg0 := rfl
@[simp] theorem fail_arg1 (c : ErrCode) (s : State) : (fail c s).arg1 = s.arg1 := rfl
@[simp] theorem fail_arg2 (c : ErrCode) (s : State) : (fail c s).arg2 = s.arg2 := rfl
@[simp] theorem fail_result0 (c : ErrCode) (s : State) : (fail c s).result0 = 0 := rfl
@[simp] theorem fail_result1 (c : ErrCode) (s : State) : (fail c s).result1 = 0 := rfl
@[simp] theorem fail_err (c : ErrCode) (s : State) : (fail c s).err = c := rfl
@[simp] theorem fail_out (c : ErrCode) (s : State) : (fail c s).out = s.out := rfl
@[simp] theorem fail_hostMem (c : ErrCode) (s : State) : (fail c s).hostMem = s.hostMem := rfl
@[simp] theorem fail_inputs (c : ErrCode) (s : State) : (fail c s).inputs = s.inputs := rfl
@[simp] theorem fail_claims (c : ErrCode) (s : State) : (fail c s).claims = s.claims := rfl
@[simp] theorem fail_draws (c : ErrCode) (s : State) : (fail c s).draws = s.draws := rfl
@[simp] theorem fail_readData (c : ErrCode) (s : State) : (fail c s).readData = s.readData := rfl

/-! ### `finish` -/

@[simp] theorem finish_params (a b : Word) (s : State) : (finish a b s).params = s.params := rfl
@[simp] theorem finish_state (a b : Word) (s : State) : (finish a b s).state = s.state := rfl
@[simp] theorem finish_playing (a b : Word) (s : State) : (finish a b s).playing = s.playing := rfl
@[simp] theorem finish_ring (a b : Word) (s : State) : (finish a b s).ring = s.ring := rfl
@[simp] theorem finish_widx (a b : Word) (s : State) : (finish a b s).widx = s.widx := rfl
@[simp] theorem finish_ridx (a b : Word) (s : State) : (finish a b s).ridx = s.ridx := rfl
@[simp] theorem finish_count (a b : Word) (s : State) : (finish a b s).count = s.count := rfl
@[simp] theorem finish_slot0 (a b : Word) (s : State) : (finish a b s).slot0 = s.slot0 := rfl
@[simp] theorem finish_slot1 (a b : Word) (s : State) : (finish a b s).slot1 = s.slot1 := rfl
@[simp] theorem finish_active (a b : Word) (s : State) : (finish a b s).active = s.active := rfl
@[simp] theorem finish_armed (a b : Word) (s : State) : (finish a b s).armed = s.armed := rfl
@[simp] theorem finish_xferPos (a b : Word) (s : State) : (finish a b s).xferPos = s.xferPos := rfl
@[simp] theorem finish_pending (a b : Word) (s : State) : (finish a b s).pending = s.pending := rfl
@[simp] theorem finish_clkEn (a b : Word) (s : State) : (finish a b s).clkEn = s.clkEn := rfl
@[simp] theorem finish_irqEn (a b : Word) (s : State) : (finish a b s).irqEn = s.irqEn := rfl
@[simp] theorem finish_underrun (a b : Word) (s : State) : (finish a b s).underrun = s.underrun := rfl
@[simp] theorem finish_overrun (a b : Word) (s : State) : (finish a b s).overrun = s.overrun := rfl
@[simp] theorem finish_sampleRate (a b : Word) (s : State) : (finish a b s).sampleRate = s.sampleRate := rfl
@[simp] theorem finish_bclkHz (a b : Word) (s : State) : (finish a b s).bclkHz = s.bclkHz := rfl
@[simp] theorem finish_divInt (a b : Word) (s : State) : (finish a b s).divInt = s.divInt := rfl
@[simp] theorem finish_divFrac (a b : Word) (s : State) : (finish a b s).divFrac = s.divFrac := rfl
@[simp] theorem finish_arg0 (a b : Word) (s : State) : (finish a b s).arg0 = s.arg0 := rfl
@[simp] theorem finish_arg1 (a b : Word) (s : State) : (finish a b s).arg1 = s.arg1 := rfl
@[simp] theorem finish_arg2 (a b : Word) (s : State) : (finish a b s).arg2 = s.arg2 := rfl
@[simp] theorem finish_result0 (a b : Word) (s : State) : (finish a b s).result0 = a := rfl
@[simp] theorem finish_result1 (a b : Word) (s : State) : (finish a b s).result1 = b := rfl
@[simp] theorem finish_err (a b : Word) (s : State) : (finish a b s).err = .ok := rfl
@[simp] theorem finish_out (a b : Word) (s : State) : (finish a b s).out = s.out := rfl
@[simp] theorem finish_hostMem (a b : Word) (s : State) : (finish a b s).hostMem = s.hostMem := rfl
@[simp] theorem finish_inputs (a b : Word) (s : State) : (finish a b s).inputs = s.inputs := rfl
@[simp] theorem finish_claims (a b : Word) (s : State) : (finish a b s).claims = s.claims := rfl
@[simp] theorem finish_draws (a b : Word) (s : State) : (finish a b s).draws = s.draws := rfl
@[simp] theorem finish_readData (a b : Word) (s : State) : (finish a b s).readData = s.readData := rfl

/-! ### `stopBody` -/

@[simp] theorem stopBody_params (s : State) : (stopBody s).params = s.params := rfl
@[simp] theorem stopBody_state (s : State) : (stopBody s).state = .stopped := rfl
@[simp] theorem stopBody_playing (s : State) : (stopBody s).playing = false := rfl
@[simp] theorem stopBody_ring (s : State) : (stopBody s).ring = s.ring := rfl
@[simp] theorem stopBody_widx (s : State) : (stopBody s).widx = s.widx := rfl
@[simp] theorem stopBody_ridx (s : State) : (stopBody s).ridx = s.ridx := rfl
@[simp] theorem stopBody_count (s : State) : (stopBody s).count = s.count := rfl
@[simp] theorem stopBody_slot0 (s : State) : (stopBody s).slot0 = s.slot0 := rfl
@[simp] theorem stopBody_slot1 (s : State) : (stopBody s).slot1 = s.slot1 := rfl
@[simp] theorem stopBody_active (s : State) : (stopBody s).active = s.active := rfl
@[simp] theorem stopBody_armed (s : State) : (stopBody s).armed = false := rfl
@[simp] theorem stopBody_xferPos (s : State) : (stopBody s).xferPos = 0 := rfl
@[simp] theorem stopBody_pending (s : State) : (stopBody s).pending = false := rfl
@[simp] theorem stopBody_clkEn (s : State) : (stopBody s).clkEn = false := rfl
@[simp] theorem stopBody_irqEn (s : State) : (stopBody s).irqEn = s.irqEn := rfl
@[simp] theorem stopBody_underrun (s : State) : (stopBody s).underrun = s.underrun := rfl
@[simp] theorem stopBody_overrun (s : State) : (stopBody s).overrun = s.overrun := rfl
@[simp] theorem stopBody_sampleRate (s : State) : (stopBody s).sampleRate = s.sampleRate := rfl
@[simp] theorem stopBody_bclkHz (s : State) : (stopBody s).bclkHz = s.bclkHz := rfl
@[simp] theorem stopBody_divInt (s : State) : (stopBody s).divInt = s.divInt := rfl
@[simp] theorem stopBody_divFrac (s : State) : (stopBody s).divFrac = s.divFrac := rfl
@[simp] theorem stopBody_arg0 (s : State) : (stopBody s).arg0 = s.arg0 := rfl
@[simp] theorem stopBody_arg1 (s : State) : (stopBody s).arg1 = s.arg1 := rfl
@[simp] theorem stopBody_arg2 (s : State) : (stopBody s).arg2 = s.arg2 := rfl
@[simp] theorem stopBody_result0 (s : State) : (stopBody s).result0 = s.result0 := rfl
@[simp] theorem stopBody_result1 (s : State) : (stopBody s).result1 = s.result1 := rfl
@[simp] theorem stopBody_err (s : State) : (stopBody s).err = s.err := rfl
@[simp] theorem stopBody_out (s : State) : (stopBody s).out = s.out := rfl
@[simp] theorem stopBody_hostMem (s : State) : (stopBody s).hostMem = s.hostMem := rfl
@[simp] theorem stopBody_inputs (s : State) : (stopBody s).inputs = s.inputs := rfl
@[simp] theorem stopBody_claims (s : State) : (stopBody s).claims = s.claims := rfl
@[simp] theorem stopBody_draws (s : State) : (stopBody s).draws = s.draws := rfl
@[simp] theorem stopBody_readData (s : State) : (stopBody s).readData = s.readData := rfl

/-! ### `zeroBuffers` -/

@[simp] theorem zeroBuffers_params (s : State) : (zeroBuffers s).params = s.params := rfl
@[simp] theorem zeroBuffers_state (s : State) : (zeroBuffers s).state = s.state := rfl
@[simp] theorem zeroBuffers_playing (s : State) : (zeroBuffers s).playing = s.playing := rfl
@[simp] theorem zeroBuffers_ring (s : State) : (zeroBuffers s).ring = silentFrames s.params.c := rfl
@[simp] theorem zeroBuffers_widx (s : State) : (zeroBuffers s).widx = 0 := rfl
@[simp] theorem zeroBuffers_ridx (s : State) : (zeroBuffers s).ridx = 0 := rfl
@[simp] theorem zeroBuffers_count (s : State) : (zeroBuffers s).count = 0 := rfl
@[simp] theorem zeroBuffers_slot0 (s : State) : (zeroBuffers s).slot0 = silentFrames s.params.q := rfl
@[simp] theorem zeroBuffers_slot1 (s : State) : (zeroBuffers s).slot1 = silentFrames s.params.q := rfl
@[simp] theorem zeroBuffers_active (s : State) : (zeroBuffers s).active = s.active := rfl
@[simp] theorem zeroBuffers_armed (s : State) : (zeroBuffers s).armed = s.armed := rfl
@[simp] theorem zeroBuffers_xferPos (s : State) : (zeroBuffers s).xferPos = s.xferPos := rfl
@[simp] theorem zeroBuffers_pending (s : State) : (zeroBuffers s).pending = s.pending := rfl
@[simp] theorem zeroBuffers_clkEn (s : State) : (zeroBuffers s).clkEn = s.clkEn := rfl
@[simp] theorem zeroBuffers_irqEn (s : State) : (zeroBuffers s).irqEn = s.irqEn := rfl
@[simp] theorem zeroBuffers_underrun (s : State) : (zeroBuffers s).underrun = s.underrun := rfl
@[simp] theorem zeroBuffers_overrun (s : State) : (zeroBuffers s).overrun = s.overrun := rfl
@[simp] theorem zeroBuffers_sampleRate (s : State) : (zeroBuffers s).sampleRate = s.sampleRate := rfl
@[simp] theorem zeroBuffers_bclkHz (s : State) : (zeroBuffers s).bclkHz = s.bclkHz := rfl
@[simp] theorem zeroBuffers_divInt (s : State) : (zeroBuffers s).divInt = s.divInt := rfl
@[simp] theorem zeroBuffers_divFrac (s : State) : (zeroBuffers s).divFrac = s.divFrac := rfl
@[simp] theorem zeroBuffers_arg0 (s : State) : (zeroBuffers s).arg0 = s.arg0 := rfl
@[simp] theorem zeroBuffers_arg1 (s : State) : (zeroBuffers s).arg1 = s.arg1 := rfl
@[simp] theorem zeroBuffers_arg2 (s : State) : (zeroBuffers s).arg2 = s.arg2 := rfl
@[simp] theorem zeroBuffers_result0 (s : State) : (zeroBuffers s).result0 = s.result0 := rfl
@[simp] theorem zeroBuffers_result1 (s : State) : (zeroBuffers s).result1 = s.result1 := rfl
@[simp] theorem zeroBuffers_err (s : State) : (zeroBuffers s).err = s.err := rfl
@[simp] theorem zeroBuffers_out (s : State) : (zeroBuffers s).out = s.out := rfl
@[simp] theorem zeroBuffers_hostMem (s : State) : (zeroBuffers s).hostMem = s.hostMem := rfl
@[simp] theorem zeroBuffers_inputs (s : State) : (zeroBuffers s).inputs = s.inputs := rfl
@[simp] theorem zeroBuffers_claims (s : State) : (zeroBuffers s).claims = s.claims := rfl
@[simp] theorem zeroBuffers_draws (s : State) : (zeroBuffers s).draws = s.draws := rfl
@[simp] theorem zeroBuffers_readData (s : State) : (zeroBuffers s).readData = s.readData := rfl

/-! ### `arm` -/

@[simp] theorem arm_params (i : SlotId) (s : State) : (arm i s).params = s.params := rfl
@[simp] theorem arm_state (i : SlotId) (s : State) : (arm i s).state = s.state := rfl
@[simp] theorem arm_playing (i : SlotId) (s : State) : (arm i s).playing = s.playing := rfl
@[simp] theorem arm_ring (i : SlotId) (s : State) : (arm i s).ring = s.ring := rfl
@[simp] theorem arm_widx (i : SlotId) (s : State) : (arm i s).widx = s.widx := rfl
@[simp] theorem arm_ridx (i : SlotId) (s : State) : (arm i s).ridx = s.ridx := rfl
@[simp] theorem arm_count (i : SlotId) (s : State) : (arm i s).count = s.count := rfl
@[simp] theorem arm_slot0 (i : SlotId) (s : State) : (arm i s).slot0 = s.slot0 := rfl
@[simp] theorem arm_slot1 (i : SlotId) (s : State) : (arm i s).slot1 = s.slot1 := rfl
@[simp] theorem arm_active (i : SlotId) (s : State) : (arm i s).active = i := rfl
@[simp] theorem arm_armed (i : SlotId) (s : State) : (arm i s).armed = true := rfl
@[simp] theorem arm_xferPos (i : SlotId) (s : State) : (arm i s).xferPos = 0 := rfl
@[simp] theorem arm_pending (i : SlotId) (s : State) : (arm i s).pending = false := rfl
@[simp] theorem arm_clkEn (i : SlotId) (s : State) : (arm i s).clkEn = s.clkEn := rfl
@[simp] theorem arm_irqEn (i : SlotId) (s : State) : (arm i s).irqEn = s.irqEn := rfl
@[simp] theorem arm_underrun (i : SlotId) (s : State) : (arm i s).underrun = s.underrun := rfl
@[simp] theorem arm_overrun (i : SlotId) (s : State) : (arm i s).overrun = s.overrun := rfl
@[simp] theorem arm_sampleRate (i : SlotId) (s : State) : (arm i s).sampleRate = s.sampleRate := rfl
@[simp] theorem arm_bclkHz (i : SlotId) (s : State) : (arm i s).bclkHz = s.bclkHz := rfl
@[simp] theorem arm_divInt (i : SlotId) (s : State) : (arm i s).divInt = s.divInt := rfl
@[simp] theorem arm_divFrac (i : SlotId) (s : State) : (arm i s).divFrac = s.divFrac := rfl
@[simp] theorem arm_arg0 (i : SlotId) (s : State) : (arm i s).arg0 = s.arg0 := rfl
@[simp] theorem arm_arg1 (i : SlotId) (s : State) : (arm i s).arg1 = s.arg1 := rfl
@[simp] theorem arm_arg2 (i : SlotId) (s : State) : (arm i s).arg2 = s.arg2 := rfl
@[simp] theorem arm_result0 (i : SlotId) (s : State) : (arm i s).result0 = s.result0 := rfl
@[simp] theorem arm_result1 (i : SlotId) (s : State) : (arm i s).result1 = s.result1 := rfl
@[simp] theorem arm_err (i : SlotId) (s : State) : (arm i s).err = s.err := rfl
@[simp] theorem arm_out (i : SlotId) (s : State) : (arm i s).out = s.out := rfl
@[simp] theorem arm_hostMem (i : SlotId) (s : State) : (arm i s).hostMem = s.hostMem := rfl
@[simp] theorem arm_inputs (i : SlotId) (s : State) : (arm i s).inputs = s.inputs := rfl
@[simp] theorem arm_claims (i : SlotId) (s : State) : (arm i s).claims = s.claims := rfl
@[simp] theorem arm_draws (i : SlotId) (s : State) : (arm i s).draws = s.draws := rfl
@[simp] theorem arm_readData (i : SlotId) (s : State) : (arm i s).readData = s.readData := rfl

/-! ### `drain` -/

@[simp] theorem drain_params (n : Nat) (s : State) : (drain n s).params = s.params := rfl
@[simp] theorem drain_state (n : Nat) (s : State) : (drain n s).state = s.state := rfl
@[simp] theorem drain_playing (n : Nat) (s : State) : (drain n s).playing = s.playing := rfl
@[simp] theorem drain_ring (n : Nat) (s : State) : (drain n s).ring = s.ring := rfl
@[simp] theorem drain_widx (n : Nat) (s : State) : (drain n s).widx = s.widx := rfl
@[simp] theorem drain_ridx (n : Nat) (s : State) : (drain n s).ridx = (s.ridx + drainCount n s) % s.params.c := rfl
@[simp] theorem drain_count (n : Nat) (s : State) : (drain n s).count = s.count - drainCount n s := rfl
@[simp] theorem drain_slot0 (n : Nat) (s : State) : (drain n s).slot0 = s.slot0 := rfl
@[simp] theorem drain_slot1 (n : Nat) (s : State) : (drain n s).slot1 = s.slot1 := rfl
@[simp] theorem drain_active (n : Nat) (s : State) : (drain n s).active = s.active := rfl
@[simp] theorem drain_armed (n : Nat) (s : State) : (drain n s).armed = s.armed := rfl
@[simp] theorem drain_xferPos (n : Nat) (s : State) : (drain n s).xferPos = s.xferPos := rfl
@[simp] theorem drain_pending (n : Nat) (s : State) : (drain n s).pending = s.pending := rfl
@[simp] theorem drain_clkEn (n : Nat) (s : State) : (drain n s).clkEn = s.clkEn := rfl
@[simp] theorem drain_irqEn (n : Nat) (s : State) : (drain n s).irqEn = s.irqEn := rfl
@[simp] theorem drain_underrun (n : Nat) (s : State) : (drain n s).underrun = s.underrun := rfl
@[simp] theorem drain_overrun (n : Nat) (s : State) : (drain n s).overrun = s.overrun := rfl
@[simp] theorem drain_sampleRate (n : Nat) (s : State) : (drain n s).sampleRate = s.sampleRate := rfl
@[simp] theorem drain_bclkHz (n : Nat) (s : State) : (drain n s).bclkHz = s.bclkHz := rfl
@[simp] theorem drain_divInt (n : Nat) (s : State) : (drain n s).divInt = s.divInt := rfl
@[simp] theorem drain_divFrac (n : Nat) (s : State) : (drain n s).divFrac = s.divFrac := rfl
@[simp] theorem drain_arg0 (n : Nat) (s : State) : (drain n s).arg0 = s.arg0 := rfl
@[simp] theorem drain_arg1 (n : Nat) (s : State) : (drain n s).arg1 = s.arg1 := rfl
@[simp] theorem drain_arg2 (n : Nat) (s : State) : (drain n s).arg2 = s.arg2 := rfl
@[simp] theorem drain_result0 (n : Nat) (s : State) : (drain n s).result0 = s.result0 := rfl
@[simp] theorem drain_result1 (n : Nat) (s : State) : (drain n s).result1 = s.result1 := rfl
@[simp] theorem drain_err (n : Nat) (s : State) : (drain n s).err = s.err := rfl
@[simp] theorem drain_out (n : Nat) (s : State) : (drain n s).out = s.out := rfl
@[simp] theorem drain_hostMem (n : Nat) (s : State) : (drain n s).hostMem = s.hostMem := rfl
@[simp] theorem drain_inputs (n : Nat) (s : State) : (drain n s).inputs = s.inputs := rfl
@[simp] theorem drain_claims (n : Nat) (s : State) : (drain n s).claims = s.claims := rfl
@[simp] theorem drain_draws (n : Nat) (s : State) : (drain n s).draws = s.draws := rfl
@[simp] theorem drain_readData (n : Nat) (s : State) : (drain n s).readData = s.readData := rfl

/-! ### `acceptFrames` -/

@[simp] theorem acceptFrames_params (s : State) : (acceptFrames s).params = s.params := rfl
@[simp] theorem acceptFrames_state (s : State) : (acceptFrames s).state = s.state := rfl
@[simp] theorem acceptFrames_playing (s : State) : (acceptFrames s).playing = s.playing := rfl
@[simp] theorem acceptFrames_ring (s : State) : (acceptFrames s).ring = writeRing s.params.c s.ring s.widx (writeFrames s) := rfl
@[simp] theorem acceptFrames_widx (s : State) : (acceptFrames s).widx = (s.widx + writeAccepted s) % s.params.c := rfl
@[simp] theorem acceptFrames_ridx (s : State) : (acceptFrames s).ridx = s.ridx := rfl
@[simp] theorem acceptFrames_count (s : State) : (acceptFrames s).count = s.count + writeAccepted s := rfl
@[simp] theorem acceptFrames_slot0 (s : State) : (acceptFrames s).slot0 = s.slot0 := rfl
@[simp] theorem acceptFrames_slot1 (s : State) : (acceptFrames s).slot1 = s.slot1 := rfl
@[simp] theorem acceptFrames_active (s : State) : (acceptFrames s).active = s.active := rfl
@[simp] theorem acceptFrames_armed (s : State) : (acceptFrames s).armed = s.armed := rfl
@[simp] theorem acceptFrames_xferPos (s : State) : (acceptFrames s).xferPos = s.xferPos := rfl
@[simp] theorem acceptFrames_pending (s : State) : (acceptFrames s).pending = s.pending := rfl
@[simp] theorem acceptFrames_clkEn (s : State) : (acceptFrames s).clkEn = s.clkEn := rfl
@[simp] theorem acceptFrames_irqEn (s : State) : (acceptFrames s).irqEn = s.irqEn := rfl
@[simp] theorem acceptFrames_underrun (s : State) : (acceptFrames s).underrun = s.underrun := rfl
@[simp] theorem acceptFrames_overrun (s : State) : (acceptFrames s).overrun = if writeAccepted s < writeCount s then satInc32 s.overrun else s.overrun := rfl
@[simp] theorem acceptFrames_sampleRate (s : State) : (acceptFrames s).sampleRate = s.sampleRate := rfl
@[simp] theorem acceptFrames_bclkHz (s : State) : (acceptFrames s).bclkHz = s.bclkHz := rfl
@[simp] theorem acceptFrames_divInt (s : State) : (acceptFrames s).divInt = s.divInt := rfl
@[simp] theorem acceptFrames_divFrac (s : State) : (acceptFrames s).divFrac = s.divFrac := rfl
@[simp] theorem acceptFrames_arg0 (s : State) : (acceptFrames s).arg0 = s.arg0 := rfl
@[simp] theorem acceptFrames_arg1 (s : State) : (acceptFrames s).arg1 = s.arg1 := rfl
@[simp] theorem acceptFrames_arg2 (s : State) : (acceptFrames s).arg2 = s.arg2 := rfl
@[simp] theorem acceptFrames_result0 (s : State) : (acceptFrames s).result0 = s.result0 := rfl
@[simp] theorem acceptFrames_result1 (s : State) : (acceptFrames s).result1 = s.result1 := rfl
@[simp] theorem acceptFrames_err (s : State) : (acceptFrames s).err = s.err := rfl
@[simp] theorem acceptFrames_out (s : State) : (acceptFrames s).out = s.out := rfl
@[simp] theorem acceptFrames_hostMem (s : State) : (acceptFrames s).hostMem = s.hostMem := rfl
@[simp] theorem acceptFrames_inputs (s : State) : (acceptFrames s).inputs = s.inputs := rfl
@[simp] theorem acceptFrames_claims (s : State) : (acceptFrames s).claims = s.claims := rfl
@[simp] theorem acceptFrames_draws (s : State) : (acceptFrames s).draws = s.draws := rfl
@[simp] theorem acceptFrames_readData (s : State) : (acceptFrames s).readData = s.readData := rfl

/-! ### `startStreaming` -/

@[simp] theorem startStreaming_params (s : State) : (startStreaming s).params = s.params := rfl
@[simp] theorem startStreaming_state (s : State) : (startStreaming s).state = .streaming := rfl
@[simp] theorem startStreaming_playing (s : State) : (startStreaming s).playing = true := rfl
@[simp] theorem startStreaming_ring (s : State) : (startStreaming s).ring = s.ring := rfl
@[simp] theorem startStreaming_widx (s : State) : (startStreaming s).widx = s.widx := rfl
@[simp] theorem startStreaming_ridx (s : State) : (startStreaming s).ridx = (s.ridx + drainCount s.params.q s) % s.params.c := rfl
@[simp] theorem startStreaming_count (s : State) : (startStreaming s).count = s.count - drainCount s.params.q s := rfl
@[simp] theorem startStreaming_slot0 (s : State) : (startStreaming s).slot0 = padWithSilence s.params.q (drainFrames s.params.q s) := rfl
@[simp] theorem startStreaming_slot1 (s : State) : (startStreaming s).slot1 = s.slot1 := rfl
@[simp] theorem startStreaming_active (s : State) : (startStreaming s).active = .zero := rfl
@[simp] theorem startStreaming_armed (s : State) : (startStreaming s).armed = true := rfl
@[simp] theorem startStreaming_xferPos (s : State) : (startStreaming s).xferPos = 0 := rfl
@[simp] theorem startStreaming_pending (s : State) : (startStreaming s).pending = false := rfl
@[simp] theorem startStreaming_clkEn (s : State) : (startStreaming s).clkEn = true := rfl
@[simp] theorem startStreaming_irqEn (s : State) : (startStreaming s).irqEn = s.irqEn := rfl
@[simp] theorem startStreaming_underrun (s : State) : (startStreaming s).underrun = s.underrun := rfl
@[simp] theorem startStreaming_overrun (s : State) : (startStreaming s).overrun = s.overrun := rfl
@[simp] theorem startStreaming_sampleRate (s : State) : (startStreaming s).sampleRate = s.sampleRate := rfl
@[simp] theorem startStreaming_bclkHz (s : State) : (startStreaming s).bclkHz = s.bclkHz := rfl
@[simp] theorem startStreaming_divInt (s : State) : (startStreaming s).divInt = s.divInt := rfl
@[simp] theorem startStreaming_divFrac (s : State) : (startStreaming s).divFrac = s.divFrac := rfl
@[simp] theorem startStreaming_arg0 (s : State) : (startStreaming s).arg0 = s.arg0 := rfl
@[simp] theorem startStreaming_arg1 (s : State) : (startStreaming s).arg1 = s.arg1 := rfl
@[simp] theorem startStreaming_arg2 (s : State) : (startStreaming s).arg2 = s.arg2 := rfl
@[simp] theorem startStreaming_result0 (s : State) : (startStreaming s).result0 = s.result0 := rfl
@[simp] theorem startStreaming_result1 (s : State) : (startStreaming s).result1 = s.result1 := rfl
@[simp] theorem startStreaming_err (s : State) : (startStreaming s).err = s.err := rfl
@[simp] theorem startStreaming_out (s : State) : (startStreaming s).out = s.out := rfl
@[simp] theorem startStreaming_hostMem (s : State) : (startStreaming s).hostMem = s.hostMem := rfl
@[simp] theorem startStreaming_inputs (s : State) : (startStreaming s).inputs = s.inputs := rfl
@[simp] theorem startStreaming_claims (s : State) : (startStreaming s).claims = s.claims := rfl
@[simp] theorem startStreaming_draws (s : State) : (startStreaming s).draws = s.draws := rfl
@[simp] theorem startStreaming_readData (s : State) : (startStreaming s).readData = s.readData := rfl

/-! ### `initCommit` -/

@[simp] theorem initCommit_params (d : Divisor) (s : State) : (initCommit d s).params = s.params := rfl
@[simp] theorem initCommit_state (d : Divisor) (s : State) : (initCommit d s).state = .idle := rfl
@[simp] theorem initCommit_playing (d : Divisor) (s : State) : (initCommit d s).playing = false := rfl
@[simp] theorem initCommit_ring (d : Divisor) (s : State) : (initCommit d s).ring = silentFrames s.params.c := rfl
@[simp] theorem initCommit_widx (d : Divisor) (s : State) : (initCommit d s).widx = 0 := rfl
@[simp] theorem initCommit_ridx (d : Divisor) (s : State) : (initCommit d s).ridx = 0 := rfl
@[simp] theorem initCommit_count (d : Divisor) (s : State) : (initCommit d s).count = 0 := rfl
@[simp] theorem initCommit_slot0 (d : Divisor) (s : State) : (initCommit d s).slot0 = silentFrames s.params.q := rfl
@[simp] theorem initCommit_slot1 (d : Divisor) (s : State) : (initCommit d s).slot1 = silentFrames s.params.q := rfl
@[simp] theorem initCommit_active (d : Divisor) (s : State) : (initCommit d s).active = .zero := rfl
@[simp] theorem initCommit_armed (d : Divisor) (s : State) : (initCommit d s).armed = false := rfl
@[simp] theorem initCommit_xferPos (d : Divisor) (s : State) : (initCommit d s).xferPos = 0 := rfl
@[simp] theorem initCommit_pending (d : Divisor) (s : State) : (initCommit d s).pending = false := rfl
@[simp] theorem initCommit_clkEn (d : Divisor) (s : State) : (initCommit d s).clkEn = false := rfl
@[simp] theorem initCommit_irqEn (d : Divisor) (s : State) : (initCommit d s).irqEn = true := rfl
@[simp] theorem initCommit_underrun (d : Divisor) (s : State) : (initCommit d s).underrun = 0 := rfl
@[simp] theorem initCommit_overrun (d : Divisor) (s : State) : (initCommit d s).overrun = 0 := rfl
@[simp] theorem initCommit_sampleRate (d : Divisor) (s : State) : (initCommit d s).sampleRate = s.arg0 := rfl
@[simp] theorem initCommit_bclkHz (d : Divisor) (s : State) : (initCommit d s).bclkHz = d.bclk := rfl
@[simp] theorem initCommit_divInt (d : Divisor) (s : State) : (initCommit d s).divInt = d.dint := rfl
@[simp] theorem initCommit_divFrac (d : Divisor) (s : State) : (initCommit d s).divFrac = d.dfrac := rfl
@[simp] theorem initCommit_arg0 (d : Divisor) (s : State) : (initCommit d s).arg0 = s.arg0 := rfl
@[simp] theorem initCommit_arg1 (d : Divisor) (s : State) : (initCommit d s).arg1 = s.arg1 := rfl
@[simp] theorem initCommit_arg2 (d : Divisor) (s : State) : (initCommit d s).arg2 = s.arg2 := rfl
@[simp] theorem initCommit_result0 (d : Divisor) (s : State) : (initCommit d s).result0 = s.result0 := rfl
@[simp] theorem initCommit_result1 (d : Divisor) (s : State) : (initCommit d s).result1 = s.result1 := rfl
@[simp] theorem initCommit_err (d : Divisor) (s : State) : (initCommit d s).err = s.err := rfl
@[simp] theorem initCommit_out (d : Divisor) (s : State) : (initCommit d s).out = s.out := rfl
@[simp] theorem initCommit_hostMem (d : Divisor) (s : State) : (initCommit d s).hostMem = s.hostMem := rfl
@[simp] theorem initCommit_inputs (d : Divisor) (s : State) : (initCommit d s).inputs = s.inputs := rfl
@[simp] theorem initCommit_claims (d : Divisor) (s : State) : (initCommit d s).claims = s.claims := rfl
@[simp] theorem initCommit_draws (d : Divisor) (s : State) : (initCommit d s).draws = s.draws := rfl
@[simp] theorem initCommit_readData (d : Divisor) (s : State) : (initCommit d s).readData = s.readData := rfl

/-! ### `resetBlock` -/

@[simp] theorem resetBlock_params (s : State) : (resetBlock s).params = s.params := rfl
@[simp] theorem resetBlock_state (s : State) : (resetBlock s).state = .uninit := rfl
@[simp] theorem resetBlock_playing (s : State) : (resetBlock s).playing = false := rfl
@[simp] theorem resetBlock_ring (s : State) : (resetBlock s).ring = (List.range s.params.c).map (Config.ringAtReset s.draws) := rfl
@[simp] theorem resetBlock_widx (s : State) : (resetBlock s).widx = 0 := rfl
@[simp] theorem resetBlock_ridx (s : State) : (resetBlock s).ridx = 0 := rfl
@[simp] theorem resetBlock_count (s : State) : (resetBlock s).count = 0 := rfl
@[simp] theorem resetBlock_slot0 (s : State) : (resetBlock s).slot0 = (List.range s.params.q).map (Config.slotAtReset s.draws .zero) := rfl
@[simp] theorem resetBlock_slot1 (s : State) : (resetBlock s).slot1 = (List.range s.params.q).map (Config.slotAtReset s.draws .one) := rfl
@[simp] theorem resetBlock_active (s : State) : (resetBlock s).active = .zero := rfl
@[simp] theorem resetBlock_armed (s : State) : (resetBlock s).armed = false := rfl
@[simp] theorem resetBlock_xferPos (s : State) : (resetBlock s).xferPos = 0 := rfl
@[simp] theorem resetBlock_pending (s : State) : (resetBlock s).pending = false := rfl
@[simp] theorem resetBlock_clkEn (s : State) : (resetBlock s).clkEn = false := rfl
@[simp] theorem resetBlock_irqEn (s : State) : (resetBlock s).irqEn = false := rfl
@[simp] theorem resetBlock_underrun (s : State) : (resetBlock s).underrun = 0 := rfl
@[simp] theorem resetBlock_overrun (s : State) : (resetBlock s).overrun = 0 := rfl
@[simp] theorem resetBlock_sampleRate (s : State) : (resetBlock s).sampleRate = 0 := rfl
@[simp] theorem resetBlock_bclkHz (s : State) : (resetBlock s).bclkHz = 0 := rfl
@[simp] theorem resetBlock_divInt (s : State) : (resetBlock s).divInt = 0 := rfl
@[simp] theorem resetBlock_divFrac (s : State) : (resetBlock s).divFrac = 0 := rfl
@[simp] theorem resetBlock_arg0 (s : State) : (resetBlock s).arg0 = 0 := rfl
@[simp] theorem resetBlock_arg1 (s : State) : (resetBlock s).arg1 = 0 := rfl
@[simp] theorem resetBlock_arg2 (s : State) : (resetBlock s).arg2 = 0 := rfl
@[simp] theorem resetBlock_result0 (s : State) : (resetBlock s).result0 = 0 := rfl
@[simp] theorem resetBlock_result1 (s : State) : (resetBlock s).result1 = 0 := rfl
@[simp] theorem resetBlock_err (s : State) : (resetBlock s).err = .ok := rfl
@[simp] theorem resetBlock_out (s : State) : (resetBlock s).out = s.out := rfl
@[simp] theorem resetBlock_hostMem (s : State) : (resetBlock s).hostMem = s.hostMem := rfl
@[simp] theorem resetBlock_inputs (s : State) : (resetBlock s).inputs = s.inputs := rfl
@[simp] theorem resetBlock_claims (s : State) : (resetBlock s).claims = s.claims := rfl
@[simp] theorem resetBlock_draws (s : State) : (resetBlock s).draws = s.draws + 1 := rfl
@[simp] theorem resetBlock_readData (s : State) : (resetBlock s).readData = s.readData := rfl

/-! ### `setSlot` -/

@[simp] theorem setSlot_params (i : SlotId) (frames : List Frame) (s : State) : (setSlot i frames s).params = s.params := by cases i <;> rfl
@[simp] theorem setSlot_state (i : SlotId) (frames : List Frame) (s : State) : (setSlot i frames s).state = s.state := by cases i <;> rfl
@[simp] theorem setSlot_playing (i : SlotId) (frames : List Frame) (s : State) : (setSlot i frames s).playing = s.playing := by cases i <;> rfl
@[simp] theorem setSlot_ring (i : SlotId) (frames : List Frame) (s : State) : (setSlot i frames s).ring = s.ring := by cases i <;> rfl
@[simp] theorem setSlot_widx (i : SlotId) (frames : List Frame) (s : State) : (setSlot i frames s).widx = s.widx := by cases i <;> rfl
@[simp] theorem setSlot_ridx (i : SlotId) (frames : List Frame) (s : State) : (setSlot i frames s).ridx = s.ridx := by cases i <;> rfl
@[simp] theorem setSlot_count (i : SlotId) (frames : List Frame) (s : State) : (setSlot i frames s).count = s.count := by cases i <;> rfl
@[simp] theorem setSlot_active (i : SlotId) (frames : List Frame) (s : State) : (setSlot i frames s).active = s.active := by cases i <;> rfl
@[simp] theorem setSlot_armed (i : SlotId) (frames : List Frame) (s : State) : (setSlot i frames s).armed = s.armed := by cases i <;> rfl
@[simp] theorem setSlot_xferPos (i : SlotId) (frames : List Frame) (s : State) : (setSlot i frames s).xferPos = s.xferPos := by cases i <;> rfl
@[simp] theorem setSlot_pending (i : SlotId) (frames : List Frame) (s : State) : (setSlot i frames s).pending = s.pending := by cases i <;> rfl
@[simp] theorem setSlot_clkEn (i : SlotId) (frames : List Frame) (s : State) : (setSlot i frames s).clkEn = s.clkEn := by cases i <;> rfl
@[simp] theorem setSlot_irqEn (i : SlotId) (frames : List Frame) (s : State) : (setSlot i frames s).irqEn = s.irqEn := by cases i <;> rfl
@[simp] theorem setSlot_underrun (i : SlotId) (frames : List Frame) (s : State) : (setSlot i frames s).underrun = s.underrun := by cases i <;> rfl
@[simp] theorem setSlot_overrun (i : SlotId) (frames : List Frame) (s : State) : (setSlot i frames s).overrun = s.overrun := by cases i <;> rfl
@[simp] theorem setSlot_sampleRate (i : SlotId) (frames : List Frame) (s : State) : (setSlot i frames s).sampleRate = s.sampleRate := by cases i <;> rfl
@[simp] theorem setSlot_bclkHz (i : SlotId) (frames : List Frame) (s : State) : (setSlot i frames s).bclkHz = s.bclkHz := by cases i <;> rfl
@[simp] theorem setSlot_divInt (i : SlotId) (frames : List Frame) (s : State) : (setSlot i frames s).divInt = s.divInt := by cases i <;> rfl
@[simp] theorem setSlot_divFrac (i : SlotId) (frames : List Frame) (s : State) : (setSlot i frames s).divFrac = s.divFrac := by cases i <;> rfl
@[simp] theorem setSlot_arg0 (i : SlotId) (frames : List Frame) (s : State) : (setSlot i frames s).arg0 = s.arg0 := by cases i <;> rfl
@[simp] theorem setSlot_arg1 (i : SlotId) (frames : List Frame) (s : State) : (setSlot i frames s).arg1 = s.arg1 := by cases i <;> rfl
@[simp] theorem setSlot_arg2 (i : SlotId) (frames : List Frame) (s : State) : (setSlot i frames s).arg2 = s.arg2 := by cases i <;> rfl
@[simp] theorem setSlot_result0 (i : SlotId) (frames : List Frame) (s : State) : (setSlot i frames s).result0 = s.result0 := by cases i <;> rfl
@[simp] theorem setSlot_result1 (i : SlotId) (frames : List Frame) (s : State) : (setSlot i frames s).result1 = s.result1 := by cases i <;> rfl
@[simp] theorem setSlot_err (i : SlotId) (frames : List Frame) (s : State) : (setSlot i frames s).err = s.err := by cases i <;> rfl
@[simp] theorem setSlot_out (i : SlotId) (frames : List Frame) (s : State) : (setSlot i frames s).out = s.out := by cases i <;> rfl
@[simp] theorem setSlot_hostMem (i : SlotId) (frames : List Frame) (s : State) : (setSlot i frames s).hostMem = s.hostMem := by cases i <;> rfl
@[simp] theorem setSlot_inputs (i : SlotId) (frames : List Frame) (s : State) : (setSlot i frames s).inputs = s.inputs := by cases i <;> rfl
@[simp] theorem setSlot_claims (i : SlotId) (frames : List Frame) (s : State) : (setSlot i frames s).claims = s.claims := by cases i <;> rfl
@[simp] theorem setSlot_draws (i : SlotId) (frames : List Frame) (s : State) : (setSlot i frames s).draws = s.draws := by cases i <;> rfl
@[simp] theorem setSlot_readData (i : SlotId) (frames : List Frame) (s : State) : (setSlot i frames s).readData = s.readData := by cases i <;> rfl

/-! ### `consumeClaim` -/

@[simp] theorem consumeClaim_params (s : State) : (consumeClaim s).params = s.params := by unfold consumeClaim; split <;> simp_all
@[simp] theorem consumeClaim_state (s : State) : (consumeClaim s).state = s.state := by unfold consumeClaim; split <;> simp_all
@[simp] theorem consumeClaim_playing (s : State) : (consumeClaim s).playing = s.playing := by unfold consumeClaim; split <;> simp_all
@[simp] theorem consumeClaim_ring (s : State) : (consumeClaim s).ring = s.ring := by unfold consumeClaim; split <;> simp_all
@[simp] theorem consumeClaim_widx (s : State) : (consumeClaim s).widx = s.widx := by unfold consumeClaim; split <;> simp_all
@[simp] theorem consumeClaim_ridx (s : State) : (consumeClaim s).ridx = s.ridx := by unfold consumeClaim; split <;> simp_all
@[simp] theorem consumeClaim_count (s : State) : (consumeClaim s).count = s.count := by unfold consumeClaim; split <;> simp_all
@[simp] theorem consumeClaim_slot0 (s : State) : (consumeClaim s).slot0 = s.slot0 := by unfold consumeClaim; split <;> simp_all
@[simp] theorem consumeClaim_slot1 (s : State) : (consumeClaim s).slot1 = s.slot1 := by unfold consumeClaim; split <;> simp_all
@[simp] theorem consumeClaim_active (s : State) : (consumeClaim s).active = s.active := by unfold consumeClaim; split <;> simp_all
@[simp] theorem consumeClaim_armed (s : State) : (consumeClaim s).armed = s.armed := by unfold consumeClaim; split <;> simp_all
@[simp] theorem consumeClaim_xferPos (s : State) : (consumeClaim s).xferPos = s.xferPos := by unfold consumeClaim; split <;> simp_all
@[simp] theorem consumeClaim_pending (s : State) : (consumeClaim s).pending = s.pending := by unfold consumeClaim; split <;> simp_all
@[simp] theorem consumeClaim_clkEn (s : State) : (consumeClaim s).clkEn = s.clkEn := by unfold consumeClaim; split <;> simp_all
@[simp] theorem consumeClaim_irqEn (s : State) : (consumeClaim s).irqEn = s.irqEn := by unfold consumeClaim; split <;> simp_all
@[simp] theorem consumeClaim_underrun (s : State) : (consumeClaim s).underrun = s.underrun := by unfold consumeClaim; split <;> simp_all
@[simp] theorem consumeClaim_overrun (s : State) : (consumeClaim s).overrun = s.overrun := by unfold consumeClaim; split <;> simp_all
@[simp] theorem consumeClaim_sampleRate (s : State) : (consumeClaim s).sampleRate = s.sampleRate := by unfold consumeClaim; split <;> simp_all
@[simp] theorem consumeClaim_bclkHz (s : State) : (consumeClaim s).bclkHz = s.bclkHz := by unfold consumeClaim; split <;> simp_all
@[simp] theorem consumeClaim_divInt (s : State) : (consumeClaim s).divInt = s.divInt := by unfold consumeClaim; split <;> simp_all
@[simp] theorem consumeClaim_divFrac (s : State) : (consumeClaim s).divFrac = s.divFrac := by unfold consumeClaim; split <;> simp_all
@[simp] theorem consumeClaim_arg0 (s : State) : (consumeClaim s).arg0 = s.arg0 := by unfold consumeClaim; split <;> simp_all
@[simp] theorem consumeClaim_arg1 (s : State) : (consumeClaim s).arg1 = s.arg1 := by unfold consumeClaim; split <;> simp_all
@[simp] theorem consumeClaim_arg2 (s : State) : (consumeClaim s).arg2 = s.arg2 := by unfold consumeClaim; split <;> simp_all
@[simp] theorem consumeClaim_result0 (s : State) : (consumeClaim s).result0 = s.result0 := by unfold consumeClaim; split <;> simp_all
@[simp] theorem consumeClaim_result1 (s : State) : (consumeClaim s).result1 = s.result1 := by unfold consumeClaim; split <;> simp_all
@[simp] theorem consumeClaim_err (s : State) : (consumeClaim s).err = s.err := by unfold consumeClaim; split <;> simp_all
@[simp] theorem consumeClaim_out (s : State) : (consumeClaim s).out = s.out := by unfold consumeClaim; split <;> simp_all
@[simp] theorem consumeClaim_hostMem (s : State) : (consumeClaim s).hostMem = s.hostMem := by unfold consumeClaim; split <;> simp_all
@[simp] theorem consumeClaim_inputs (s : State) : (consumeClaim s).inputs = s.inputs := by unfold consumeClaim; split <;> simp_all
@[simp] theorem consumeClaim_claims (s : State) : (consumeClaim s).claims = s.claims.tail := by unfold consumeClaim; split <;> simp_all
@[simp] theorem consumeClaim_readData (s : State) : (consumeClaim s).readData = s.readData := by unfold consumeClaim; split <;> simp_all

/-! ### `consumeInput` -/

@[simp] theorem consumeInput_params (s : State) : (consumeInput s).params = s.params := by unfold consumeInput; split <;> simp_all
@[simp] theorem consumeInput_state (s : State) : (consumeInput s).state = s.state := by unfold consumeInput; split <;> simp_all
@[simp] theorem consumeInput_playing (s : State) : (consumeInput s).playing = s.playing := by unfold consumeInput; split <;> simp_all
@[simp] theorem consumeInput_ring (s : State) : (consumeInput s).ring = s.ring := by unfold consumeInput; split <;> simp_all
@[simp] theorem consumeInput_widx (s : State) : (consumeInput s).widx = s.widx := by unfold consumeInput; split <;> simp_all
@[simp] theorem consumeInput_ridx (s : State) : (consumeInput s).ridx = s.ridx := by unfold consumeInput; split <;> simp_all
@[simp] theorem consumeInput_count (s : State) : (consumeInput s).count = s.count := by unfold consumeInput; split <;> simp_all
@[simp] theorem consumeInput_slot0 (s : State) : (consumeInput s).slot0 = s.slot0 := by unfold consumeInput; split <;> simp_all
@[simp] theorem consumeInput_slot1 (s : State) : (consumeInput s).slot1 = s.slot1 := by unfold consumeInput; split <;> simp_all
@[simp] theorem consumeInput_active (s : State) : (consumeInput s).active = s.active := by unfold consumeInput; split <;> simp_all
@[simp] theorem consumeInput_armed (s : State) : (consumeInput s).armed = s.armed := by unfold consumeInput; split <;> simp_all
@[simp] theorem consumeInput_xferPos (s : State) : (consumeInput s).xferPos = s.xferPos := by unfold consumeInput; split <;> simp_all
@[simp] theorem consumeInput_pending (s : State) : (consumeInput s).pending = s.pending := by unfold consumeInput; split <;> simp_all
@[simp] theorem consumeInput_clkEn (s : State) : (consumeInput s).clkEn = s.clkEn := by unfold consumeInput; split <;> simp_all
@[simp] theorem consumeInput_irqEn (s : State) : (consumeInput s).irqEn = s.irqEn := by unfold consumeInput; split <;> simp_all
@[simp] theorem consumeInput_underrun (s : State) : (consumeInput s).underrun = s.underrun := by unfold consumeInput; split <;> simp_all
@[simp] theorem consumeInput_overrun (s : State) : (consumeInput s).overrun = s.overrun := by unfold consumeInput; split <;> simp_all
@[simp] theorem consumeInput_sampleRate (s : State) : (consumeInput s).sampleRate = s.sampleRate := by unfold consumeInput; split <;> simp_all
@[simp] theorem consumeInput_bclkHz (s : State) : (consumeInput s).bclkHz = s.bclkHz := by unfold consumeInput; split <;> simp_all
@[simp] theorem consumeInput_divInt (s : State) : (consumeInput s).divInt = s.divInt := by unfold consumeInput; split <;> simp_all
@[simp] theorem consumeInput_divFrac (s : State) : (consumeInput s).divFrac = s.divFrac := by unfold consumeInput; split <;> simp_all
@[simp] theorem consumeInput_arg0 (s : State) : (consumeInput s).arg0 = s.arg0 := by unfold consumeInput; split <;> simp_all
@[simp] theorem consumeInput_arg1 (s : State) : (consumeInput s).arg1 = s.arg1 := by unfold consumeInput; split <;> simp_all
@[simp] theorem consumeInput_arg2 (s : State) : (consumeInput s).arg2 = s.arg2 := by unfold consumeInput; split <;> simp_all
@[simp] theorem consumeInput_result0 (s : State) : (consumeInput s).result0 = s.result0 := by unfold consumeInput; split <;> simp_all
@[simp] theorem consumeInput_result1 (s : State) : (consumeInput s).result1 = s.result1 := by unfold consumeInput; split <;> simp_all
@[simp] theorem consumeInput_err (s : State) : (consumeInput s).err = s.err := by unfold consumeInput; split <;> simp_all
@[simp] theorem consumeInput_out (s : State) : (consumeInput s).out = s.out := by unfold consumeInput; split <;> simp_all
@[simp] theorem consumeInput_hostMem (s : State) : (consumeInput s).hostMem = s.hostMem := by unfold consumeInput; split <;> simp_all
@[simp] theorem consumeInput_inputs (s : State) : (consumeInput s).inputs = s.inputs.tail := by unfold consumeInput; split <;> simp_all
@[simp] theorem consumeInput_claims (s : State) : (consumeInput s).claims = s.claims := by unfold consumeInput; split <;> simp_all
@[simp] theorem consumeInput_readData (s : State) : (consumeInput s).readData = s.readData := by unfold consumeInput; split <;> simp_all

/-! ### Slots -/

@[simp] theorem setSlot_zero_slot0 (frames : List Frame) (s : State) : (setSlot .zero frames s).slot0 = frames := rfl
@[simp] theorem setSlot_zero_slot1 (frames : List Frame) (s : State) : (setSlot .zero frames s).slot1 = s.slot1 := rfl
@[simp] theorem setSlot_one_slot0 (frames : List Frame) (s : State) : (setSlot .one frames s).slot0 = s.slot0 := rfl
@[simp] theorem setSlot_one_slot1 (frames : List Frame) (s : State) : (setSlot .one frames s).slot1 = frames := rfl
@[simp] theorem slotFrames_zero (s : State) : slotFrames s .zero = s.slot0 := rfl
@[simp] theorem slotFrames_one (s : State) : slotFrames s .one = s.slot1 := rfl
@[simp] theorem otherSlot_zero : otherSlot .zero = .one := rfl
@[simp] theorem otherSlot_one : otherSlot .one = .zero := rfl

@[simp] theorem otherSlot_otherSlot (i : SlotId) : otherSlot (otherSlot i) = i := by cases i <;> rfl

theorem slotFrames_setSlot_same (i : SlotId) (frames : List Frame) (s : State) :
    slotFrames (setSlot i frames s) i = frames := by cases i <;> rfl

theorem slotFrames_setSlot_other (i : SlotId) (frames : List Frame) (s : State) :
    slotFrames (setSlot i frames s) (otherSlot i) = slotFrames s (otherSlot i) := by cases i <;> rfl

end Sys2Proof.Machine
end

