-- ==== Sys2Proof/Laws/Ring.lean ====
section
/-! SUPPORT. The ring as a queue: what draining and accepting do to the frames it holds. -/

namespace Sys2Proof.Machine

@[simp] theorem silentFrames_length (n : Nat) : (silentFrames n).length = n := by simp [silentFrames]

@[simp] theorem buffered_length (s : State) : (buffered s).length = s.count := by simp [buffered]

@[simp] theorem drainFrames_length (n : Nat) (s : State) : (drainFrames n s).length = drainCount n s := by
  simp [drainFrames]

theorem drainCount_le (n : Nat) (s : State) : drainCount n s ≤ s.count := Nat.min_le_right _ _

theorem drainCount_of_le {n : Nat} {s : State} (h : n ≤ s.count) : drainCount n s = n := Nat.min_eq_left h

theorem padWithSilence_length {n : Nat} {frames : List Frame} (h : frames.length ≤ n) :
    (padWithSilence n frames).length = n := by
  simp [padWithSilence]; omega

@[simp] theorem writeFrames_length (s : State) : (writeFrames s).length = writeAccepted s := by
  simp [writeFrames]

@[simp] theorem writeRing_length (c : Nat) (ring : List Frame) (k : Nat) (fs : List Frame) :
    (writeRing c ring k fs).length = ring.length := by
  induction fs generalizing ring k with
  | nil => rfl
  | cons f fs ih => simp [writeRing, ih]

/-- `drain` moves a prefix of the buffered frames out of the ring and leaves the rest in order. -/
theorem drainFrames_append_buffered (n : Nat) (s : State) :
    drainFrames n s ++ buffered (drain n s) = buffered s := by
  have hle := drainCount_le n s
  apply List.ext_getElem
  · simp; omega
  · intro i h1 h2
    rw [List.getElem_append]
    split
    · simp [drainFrames, buffered]
    · rename_i h
      simp only [drainFrames_length] at h
      simp only [buffered, List.getElem_map, List.getElem_range, drainFrames_length, ringRead, drain_ring, drain_params,
        drain_ridx]
      congr 1
      rw [Nat.mod_add_mod]
      congr 1
      omega

theorem drainFrames_eq_take (n : Nat) (s : State) : drainFrames n s = (buffered s).take n := by
  rw [← drainFrames_append_buffered n s, List.take_append]
  have : (drainFrames n s).length ≤ n := by simp [drainCount]
  rw [List.take_of_length_le this]
  by_cases h : n ≤ s.count
  · simp [drainCount_of_le h]
  · have : buffered (drain n s) = [] := by
      rw [← List.length_eq_zero_iff]
      simp [drainCount]; omega
    simp [this]

theorem buffered_drain (n : Nat) (s : State) : buffered (drain n s) = (buffered s).drop n := by
  have h := drainFrames_append_buffered n s
  by_cases hn : n ≤ s.count
  · rw [← h, List.drop_append, List.drop_eq_nil_of_le (by simp [drainCount])]
    simp [drainCount_of_le hn]
  · rw [List.drop_eq_nil_of_le (by simp; omega), ← List.length_eq_zero_iff]
    simp [drainCount]; omega

/-- Two different offsets below `C` from one index are different ring entries. -/
theorem mod_add_ne {c a i j : Nat} (hi : i < c) (hj : j < c) (h : i ≠ j) : (a + i) % c ≠ (a + j) % c := by
  intro heq
  have : (a + i) ≡ (a + j) [MOD c] := heq
  have := Nat.ModEq.add_left_cancel' a this
  rw [Nat.ModEq, Nat.mod_eq_of_lt hi, Nat.mod_eq_of_lt hj] at this
  exact h this

/-- A ring entry that WRITE does not reach stays. -/
theorem writeRing_get_other {c : Nat} (ring : List Frame) (k : Nat) (fs : List Frame) (j : Nat)
    (h : ∀ i, i < fs.length → j ≠ (k + i) % c) : (writeRing c ring k fs)[j]? = ring[j]? := by
  induction fs generalizing ring k with
  | nil => rfl
  | cons f fs ih =>
    rw [writeRing, ih]
    · have h0 := h 0 (by simp)
      rw [List.getElem?_set_ne (by simpa using fun e => h0 e.symm)]
    · intro i hi
      rw [show k + 1 + i = k + (i + 1) by omega]
      exact h (i + 1) (by simpa using hi)

/-- Ring entry `(k + i) mod C` holds the i-th frame written, for at most `C` frames. -/
theorem writeRing_get_written {c : Nat} (ring : List Frame) (hr : ring.length = c) (k : Nat) (fs : List Frame)
    (hfs : fs.length ≤ c) (i : Nat) (hi : i < fs.length) : (writeRing c ring k fs)[(k + i) % c]? = fs[i]? := by
  induction fs generalizing ring k i with
  | nil => simp at hi
  | cons f fs ih =>
    simp only [List.length_cons] at hfs hi
    rw [writeRing]
    cases i with
    | zero =>
      rw [writeRing_get_other]
      · have hc : k % c < c := Nat.mod_lt _ (by omega)
        simp [hr, hc]
      · intro j hj
        rw [Nat.add_assoc]
        exact mod_add_ne (by omega) (by omega) (by omega)
    | succ i =>
      have := ih (ring.set (k % c) f) (by simpa using hr) (k + 1) (by omega) i (by omega)
      rw [show k + (i + 1) = k + 1 + i by omega, this]
      rfl

/-- Accepting frames appends them to the frames the ring holds (41_ring_buffer.md R67, R68). -/
theorem buffered_acceptFrames {s : State} (hring : s.ring.length = s.params.c) (hcount : s.count ≤ s.params.c)
    (hwidx : s.widx = (s.ridx + s.count) % s.params.c) :
    buffered (acceptFrames s) = buffered s ++ writeFrames s := by
  have hacc : writeAccepted s ≤ s.params.c - s.count := Nat.min_le_right _ _
  apply List.ext_getElem
  · simp
  · intro i h1 h2
    simp only [buffered_length, acceptFrames_count] at h1
    simp only [buffered, List.getElem_map, List.getElem_range, ringRead, acceptFrames_ring, acceptFrames_params,
      acceptFrames_ridx]
    rw [List.getElem_append]
    split
    · rename_i h
      simp only [List.length_map, List.length_range] at h
      rw [List.getD_eq_getElem?_getD, writeRing_get_other]
      · simp
      · intro j hj
        simp only [writeFrames_length] at hj
        rw [hwidx, Nat.mod_add_mod, Nat.add_assoc]
        exact mod_add_ne (by omega) (by omega) (by omega)
    · rename_i h
      simp only [List.length_map, List.length_range] at h
      have hj : i - s.count < (writeFrames s).length := by simp; omega
      have key := writeRing_get_written s.ring hring s.widx (writeFrames s) (by simp; omega) (i - s.count) hj
      have hidx : (s.widx + (i - s.count)) % s.params.c = (s.ridx + i) % s.params.c := by
        rw [hwidx, Nat.mod_add_mod]
        congr 1
        omega
      rw [hidx] at key
      rw [List.getD_eq_getElem?_getD, key, List.getElem?_eq_getElem hj]
      simp

end Sys2Proof.Machine
end

