-- ==== Sys2Proof/Laws/Step.lean ====
section
/-! SUPPORT. What each meaning, each input and the step can do, said once. -/

namespace Sys2Proof.Machine

/-! ### Commands -/

theorem execWrite_next {s t : State} (h : execWrite s = .next t) :
    (s.state = .uninit ∧ t = fail .notInit s) ∨
    (s.state ≠ .uninit ∧ writeInvalid s = true ∧ t = finish 0 0 s) ∨
    (s.state ≠ .uninit ∧ writeInvalid s = false ∧
      t = finish (countWord (writeAccepted s)) 0 (acceptFrames s)) := by
  unfold execWrite at h
  split at h
  · exact .inl ⟨‹_›, by cases h; rfl⟩
  · split at h
    · exact .inr (.inl ⟨‹_›, ‹_›, by cases h; rfl⟩)
    · exact .inr (.inr ⟨‹_›, by simpa using ‹¬writeInvalid s = true›, by cases h; rfl⟩)

theorem execStart_next {s t : State} (h : execStart s = .next t) :
    (s.state = .uninit ∧ t = fail .notInit s) ∨
    (s.state = .streaming ∧ t = finish 0 0 s) ∨
    ((s.state = .idle ∨ s.state = .stopped) ∧ t = finish 0 0 (startStreaming s)) := by
  unfold execStart at h
  split at h <;> cases h <;> simp_all

theorem execStop_next {s t : State} (h : execStop s = .next t) :
    (s.state = .uninit ∧ t = fail .notInit s) ∨
    (s.state = .streaming ∧ t = finish 0 0 (stopBody s)) ∨
    ((s.state = .idle ∨ s.state = .stopped) ∧ t = finish 0 0 s) := by
  unfold execStop at h
  split at h <;> cases h <;> simp_all

theorem execClear_next {s t : State} (h : execClear s = .next t) :
    (s.state = .uninit ∧ t = fail .notInit s) ∨
    (s.state = .streaming ∧ t = finish 0 0 (zeroBuffers (stopBody s))) ∨
    ((s.state = .idle ∨ s.state = .stopped) ∧ t = finish 0 0 (zeroBuffers s)) := by
  unfold execClear at h
  split at h <;> cases h <;> simp_all

theorem execInit_next {s t : State} (h : execInit s = .next t) :
    (s.state ≠ .uninit ∧ t = fail .cfgReinit s) ∨
    (s.state = .uninit ∧ initFormatOk s = false ∧ t = fail .cfgFormat s) ∨
    (s.state = .uninit ∧ initFormatOk s = true ∧ divisor s.params (initRate s) = none ∧
      t = fail .cfgRate s) ∨
    (∃ d, s.state = .uninit ∧ initFormatOk s = true ∧ divisor s.params (initRate s) = some d ∧
      claimAnswer s = false ∧ t = fail .cfgResource (consumeClaim s)) ∨
    (∃ d, s.state = .uninit ∧ initFormatOk s = true ∧ divisor s.params (initRate s) = some d ∧
      claimAnswer s = true ∧ t = finish 1 0 (initCommit d (consumeClaim s))) := by
  unfold execInit at h
  split at h
  · exact .inl ⟨‹_›, by cases h; rfl⟩
  · split at h
    · exact .inr (.inl ⟨by simp_all, ‹_›, by cases h; rfl⟩)
    · split at h
      · exact .inr (.inr (.inl ⟨by simp_all, by simp_all, ‹_›, by cases h; rfl⟩))
      · rename_i d hd
        split at h
        · exact .inr (.inr (.inr (.inr ⟨d, by simp_all, by simp_all, hd, ‹_›, by cases h; rfl⟩)))
        · exact .inr (.inr (.inr (.inl ⟨d, by simp_all, by simp_all, hd, by simp_all, by cases h; rfl⟩)))

/-! ### Inputs without an encoding -/

theorem beat_of_enabled {s : State} (h : beatEnabled s = true) :
    beat s = { s with out := s.out ++ [slotRead s s.active s.xferPos], xferPos := s.xferPos + 1 } := by
  simp [beat, h]

theorem beat_of_not_enabled {s : State} (h : beatEnabled s = false) : beat s = s := by simp [beat, h]

theorem complete_of_enabled {s : State} (h : completeEnabled s = true) :
    complete s = { s with armed := false, pending := true } := by simp [complete, h]

theorem complete_of_not_enabled {s : State} (h : completeEnabled s = false) : complete s = s := by
  simp [complete, h]

theorem service_of_not_enabled {s : State} (h : serviceEnabled s = false) : service s = s := by
  simp [service, h]

/-- SERVICE with a quantum in the ring. -/
theorem service_refills {s : State} (h : serviceEnabled s = true) (hq : s.params.q ≤ s.count) :
    service s =
      arm (otherSlot s.active) (setSlot s.active (drainFrames s.params.q s) (drain s.params.q s)) := by
  simp [service, h, refill, hq]

/-- SERVICE with less than a quantum in the ring. -/
theorem service_underruns {s : State} (h : serviceEnabled s = true) (hq : s.count < s.params.q) :
    service s = arm (otherSlot s.active)
      { setSlot s.active (silentFrames s.params.q) s with underrun := satInc32 s.underrun } := by
  simp [service, h, refill, Nat.not_le.mpr hq]

/-! ### The bus -/

theorem csrOffset_some {p : Config.Params} {addr : Addr} {size off : Nat} (h : csrOffset p addr size = some off) :
    size = 4 ∧ off % 4 = 0 ∧ off ≤ 0xFC ∧ off = (addr - p.csrBase).toNat := by
  unfold csrOffset at h
  split at h
  · cases h; simp_all
  · cases h

/-- An access at `CSR_BASE + off` reaches offset `off`. -/
theorem csrOffset_at {p : Config.Params} {off : Nat} (h4 : off % 4 = 0) (hle : off ≤ 0xFC) :
    csrOffset p (p.csrBase + BitVec.ofNat 32 off) 4 = some off := by
  have h : (p.csrBase + BitVec.ofNat 32 off - p.csrBase).toNat = off := by
    rw [BitVec.add_comm, BitVec.add_sub_cancel]
    simp; omega
  rw [csrOffset, h]
  simp [h4, hle]

theorem csrOffset_base (p : Config.Params) : csrOffset p p.csrBase 4 = some 0 := by
  simp [csrOffset]

theorem busRead_next {addr : Addr} {size : Nat} {s t : State} (h : busRead addr size s = .next t) :
    ∃ off, csrOffset s.params addr size = some off ∧ t = { s with readData := csrRead s off } := by
  unfold busRead at h
  split at h
  · rename_i off ho; exact ⟨off, ho, by cases h; rfl⟩
  · cases h

/-- Everything an admitted host write can do. -/
theorem csrWrite_next {off : Nat} {v : Word} {s t : State} (h : csrWrite off v s = .next t) :
    (∃ i, off = 0 ∧ decode v = .ok i ∧ exec i s = .next t) ∨
    (∃ e, off = 0 ∧ decode v = .error e ∧ t = illegalCommand s) ∨
    (off = 4 ∧ t = { s with arg0 := v }) ∨
    (off = 8 ∧ t = { s with arg1 := v }) ∨
    (off = 12 ∧ t = { s with arg2 := v }) ∨
    (off ≠ 0 ∧ off ≠ 4 ∧ off ≠ 8 ∧ off ≠ 12 ∧ t = s) := by
  unfold csrWrite at h
  split at h
  · unfold execute at h
    split at h
    · rename_i i hi; exact .inl ⟨i, rfl, hi, h⟩
    · rename_i e he; exact .inr (.inl ⟨e, rfl, he, by cases h; rfl⟩)
  · exact .inr (.inr (.inl ⟨rfl, by cases h; rfl⟩))
  · exact .inr (.inr (.inr (.inl ⟨rfl, by cases h; rfl⟩)))
  · exact .inr (.inr (.inr (.inr (.inl ⟨rfl, by cases h; rfl⟩))))
  · exact .inr (.inr (.inr (.inr (.inr ⟨‹_›, ‹_›, ‹_›, ‹_›, by cases h; rfl⟩))))

theorem busWrite_next {addr : Addr} {size : Nat} {v : Word} {s t : State} (h : busWrite addr size v s = .next t) :
    ∃ off, csrOffset s.params addr size = some off ∧ csrWrite off v s = .next t := by
  unfold busWrite at h
  split at h
  · rename_i off ho; exact ⟨off, ho, h⟩
  · cases h

/-! ### The step -/

theorem step_next {s t : State} :
    step s = .next t ↔ s.params.wf = true ∧ perform (nextInput s) (consumeInput s) = .next t := by
  unfold step stepInput
  split <;> simp_all

theorem nextInput_cons {s : State} {i : Input} {rest : List Input} (h : s.inputs = i :: rest) : nextInput s = i := by
  simp [nextInput, h]

theorem consumeInput_cons {s : State} {i : Input} {rest : List Input} (h : s.inputs = i :: rest) :
    consumeInput s = { s with inputs := rest } := by
  simp [consumeInput, h]

/-- With an input listed, the step performs it. -/
theorem step_cons {s : State} {i : Input} {rest : List Input} (hp : s.params.wf = true) (h : s.inputs = i :: rest) :
    step s = perform i { s with inputs := rest } := by
  simp [step, stepInput, hp, nextInput_cons h, consumeInput_cons h]

@[simp] theorem perform_beat (s : State) : perform .beat s = .next (beat s) := rfl
@[simp] theorem perform_complete (s : State) : perform .complete s = .next (complete s) := rfl
@[simp] theorem perform_service (s : State) : perform .service s = .next (service s) := rfl
@[simp] theorem perform_reset (s : State) : perform .reset s = .next (resetBlock s) := rfl

end Sys2Proof.Machine
end

