-- ==== Sys2Proof/Laws/Inversion.lean ====
section
/-! SUPPORT. What a step can do, sorted by the command it issues; and how `runs` unfolds. -/

namespace Sys2Proof.Safety

open Sys2Proof.Machine

theorem issued_of_offset {p : Config.Params} {a : Addr} {n : Nat} {w : Word} {c : Instr}
    (h : csrOffset p a n = some 0) (hd : decode w = .ok c) : issued p (.busWrite a n w) = some c := by
  simp [issued, h, hd]

/-- Only an admitted CMD write of a legal word issues a command. -/
theorem issued_cases {p : Config.Params} {i : Input} {c : Instr} (h : issued p i = some c) :
    ∃ a n w, i = .busWrite a n w ∧ csrOffset p a n = some 0 ∧ decode w = .ok c := by
  cases i with
  | busWrite a n w =>
    simp only [issued] at h
    split at h
    · split at h
      · rename_i h0 _ c' hd
        cases h
        exact ⟨a, n, w, rfl, h0, hd⟩
      · cases h
    · cases h
  | _ => simp [issued] at h

/-- Everything an input can do: run its command, report an illegal word, change only the operands, the host's last
read or host memory, or be one of the four events. -/
theorem perform_cases {i : Input} {s t : State} (h : perform i s = .next t) :
    (∃ c, issued s.params i = some c ∧ exec c s = .next t) ∨
    (issued s.params i = none ∧ isCmdWrite s.params i = true ∧ t = illegalCommand s) ∨
    (issued s.params i = none ∧ isCmdWrite s.params i = false ∧
      i ≠ .reset ∧ i ≠ .beat ∧ i ≠ .complete ∧ i ≠ .service ∧
      ∃ r x y z m, t = { s with readData := r, arg0 := x, arg1 := y, arg2 := z, hostMem := m }) ∨
    (i = .beat ∧ t = beat s) ∨ (i = .complete ∧ t = complete s) ∨ (i = .service ∧ t = service s) ∨
    (i = .reset ∧ t = resetBlock s) := by
  cases i with
  | busRead a n =>
    obtain ⟨off, -, rfl⟩ := busRead_next h
    exact .inr (.inr (.inl ⟨rfl, rfl, by simp, by simp, by simp, by simp, _, _, _, _, _, rfl⟩))
  | busWrite a n v =>
    obtain ⟨off, ho, hw⟩ := busWrite_next h
    have operand : off ≠ 0 → issued s.params (.busWrite a n v) = none ∧
        isCmdWrite s.params (.busWrite a n v) = false := fun h0 => by
      simp [issued, isCmdWrite, ho, h0]
    rcases csrWrite_next hw with ⟨c, rfl, hd, hx⟩ | ⟨e, rfl, hd, rfl⟩ | ⟨rfl, rfl⟩ | ⟨rfl, rfl⟩ | ⟨rfl, rfl⟩ |
      ⟨h0, -, -, -, rfl⟩
    · exact .inl ⟨c, issued_of_offset ho hd, hx⟩
    · exact .inr (.inl ⟨by simp [issued, ho, hd], by simp [isCmdWrite, ho], rfl⟩)
    · exact .inr (.inr (.inl ⟨(operand (by simp)).1, (operand (by simp)).2, by simp, by simp, by simp, by simp,
        s.readData, v, s.arg1, s.arg2, s.hostMem, rfl⟩))
    · exact .inr (.inr (.inl ⟨(operand (by simp)).1, (operand (by simp)).2, by simp, by simp, by simp, by simp,
        s.readData, s.arg0, v, s.arg2, s.hostMem, rfl⟩))
    · exact .inr (.inr (.inl ⟨(operand (by simp)).1, (operand (by simp)).2, by simp, by simp, by simp, by simp,
        s.readData, s.arg0, s.arg1, v, s.hostMem, rfl⟩))
    · exact .inr (.inr (.inl ⟨(operand h0).1, (operand h0).2, by simp, by simp, by simp, by simp,
        t.readData, t.arg0, t.arg1, t.arg2, t.hostMem, rfl⟩))
  | beat => cases h; simp
  | complete => cases h; simp
  | service => cases h; simp
  | reset => cases h; simp
  | hostStore a v =>
    cases h
    exact .inr (.inr (.inl ⟨rfl, rfl, by simp, by simp, by simp, by simp,
      s.readData, s.arg0, s.arg1, s.arg2, _, rfl⟩))

/-- The frames in the ring depend on RING, `ridx`, `count` and `C` only. -/
theorem buffered_congr {s t : State} (h1 : t.ring = s.ring) (h2 : t.ridx = s.ridx) (h3 : t.count = s.count)
    (h4 : t.params = s.params) : buffered t = buffered s := by
  simp [buffered, ringRead, h1, h2, h3, h4]

theorem runs_zero (s : State) : runs 0 s = .next s := rfl

theorem runs_succ {k : Nat} {s t : State} (h : Machine.step s = .next t) : runs (k + 1) s = runs k t := by
  have hc : Sys2Proof.core.step s = .next t := h
  simp only [runs, Host.Core.run]
  rw [hc]

theorem runs_one (s : State) : runs 1 s = Machine.step s := by
  have hc : Sys2Proof.core.step s = Machine.step s := rfl
  simp only [runs, Host.Core.run]
  rw [hc]
  cases Machine.step s <;> rfl

theorem runs_add {j k : Nat} {s t : State} (h : runs j s = .next t) : runs (j + k) s = runs k t := by
  induction j generalizing s with
  | zero =>
    rw [runs_zero] at h
    cases h
    rw [Nat.zero_add]
  | succ j ih =>
    cases hs : Machine.step s with
    | next u =>
      rw [runs_succ hs] at h
      rw [show j + 1 + k = j + k + 1 by omega, runs_succ hs, ih h]
    | fault f => cases f
    | refused r =>
      exfalso
      have hc : Sys2Proof.core.step s = .refused r := hs
      simp only [runs, Host.Core.run] at h
      rw [hc] at h
      cases h

end Sys2Proof.Safety
end

