-- ==== Sys2Proof/Laws/PerInstr.lean ====
section
/-! SUPPORT. What holds of every command as syntax, one lemma per command. -/

namespace Sys2Proof.Laws

/-- A command is well-formed, its word is a well-formed command word, and the word decodes to it, also when numbered
as the opcode table numbers it (30_encoding.md R57 to R60). -/
def Encoding.Statement (i : Instr) : Prop :=
  i.wf = true ∧ commandWordWf (encode i) = true ∧ decode (encode i) = .ok i ∧
    decodeTableWord 32 (encode i).toNat = some i

theorem Encoding.init : Encoding.Statement .init := ⟨rfl, rfl, rfl, rfl⟩
theorem Encoding.write : Encoding.Statement .write := ⟨rfl, rfl, rfl, rfl⟩
theorem Encoding.start : Encoding.Statement .start := ⟨rfl, rfl, rfl, rfl⟩
theorem Encoding.stop : Encoding.Statement .stop := ⟨rfl, rfl, rfl, rfl⟩
theorem Encoding.clear : Encoding.Statement .clear := ⟨rfl, rfl, rfl, rfl⟩
theorem Encoding.getFreeSpace : Encoding.Statement .getFreeSpace := ⟨rfl, rfl, rfl, rfl⟩
theorem Encoding.getBufferedCount : Encoding.Statement .getBufferedCount := ⟨rfl, rfl, rfl, rfl⟩
theorem Encoding.getStats : Encoding.Statement .getStats := ⟨rfl, rfl, rfl, rfl⟩

end Sys2Proof.Laws
end

