-- ==== Sys2Proof/Tests/Slice0.lean ====
section
/-! SUPPORT. The model's own tests: words and parameters it refuses, words written out from the encoding, vectors of
95_test_vectors.md (named in each comment), and a state that meets the hypotheses of each statement. -/

namespace Sys2Proof.Tests

open Sys2Proof.Machine Sys2Proof.Safety

/-! ### Decoding: every word is written out as RSVD (28 bits) and OPC (30_encoding.md R58, R59; vectors E1 to E6) -/

theorem test_decode_init : decode 0b0000000000000000000000000000_0001 = .ok .init := by rfl
theorem test_decode_write : decode 0b0000000000000000000000000000_0010 = .ok .write := by rfl
theorem test_decode_start : decode 0b0000000000000000000000000000_0011 = .ok .start := by rfl
theorem test_decode_stop : decode 0b0000000000000000000000000000_0100 = .ok .stop := by rfl
theorem test_decode_clear : decode 0b0000000000000000000000000000_0101 = .ok .clear := by rfl
theorem test_decode_getFreeSpace : decode 0b0000000000000000000000000000_0110 = .ok .getFreeSpace := by rfl
theorem test_decode_getBufferedCount : decode 0b0000000000000000000000000000_0111 = .ok .getBufferedCount := by rfl
theorem test_decode_getStats : decode 0b0000000000000000000000000000_1000 = .ok .getStats := by rfl

theorem test_decode_illegal_opcodes :
    decode 0x00000000 = .error .reservedOpcode ∧ decode 0x00000009 = .error .reservedOpcode ∧
      decode 0x0000000F = .error .reservedOpcode := ⟨rfl, rfl, rfl⟩
theorem test_decode_reserved_bits :
    decode 0x00000010 = .error .reservedBits ∧ decode 0x00000013 = .error .reservedBits ∧
      decode 0x80000001 = .error .reservedBits ∧ decode 0xFFFFFFFF = .error .reservedBits :=
  ⟨rfl, rfl, rfl, rfl⟩
theorem test_table_word : decodeTableWord 32 0x5 = some .clear ∧ decodeTableWord 32 0x15 = none := ⟨rfl, rfl⟩

/-! ### Well-formedness: an ill-formed term for each check (30_encoding.md R63; 00_scope.md R7) -/

theorem test_wf_word_reserved : commandWordWf 0x00000013 = false := by rfl
theorem test_wf_word_low : commandWordWf 0x00000000 = false := by rfl
theorem test_wf_word_high : commandWordWf 0x00000009 = false := by rfl
theorem test_wf_params : Config.reference.wf = true := by decide
theorem test_wf_q_zero : ({ Config.reference with q := 0 } : Config.Params).wf = false := by decide
theorem test_wf_q_above_c : ({ Config.reference with q := 513 } : Config.Params).wf = false := by decide
theorem test_wf_c_large : ({ Config.reference with c := 2 ^ 31 } : Config.Params).wf = false := by decide
theorem test_wf_edge_zero : ({ Config.reference with edgeFactor := 0 } : Config.Params).wf = false := by decide
theorem test_wf_edge_large : ({ Config.reference with edgeFactor := 2 ^ 16 } : Config.Params).wf = false := by decide
theorem test_wf_clock_zero : ({ Config.reference with sysClkHz := 0 } : Config.Params).wf = false := by decide
theorem test_wf_clock_large : ({ Config.reference with sysClkHz := 2 ^ 32 } : Config.Params).wf = false := by decide

/-! ### States of 95_test_vectors.md: `C = 8`, `Q = 4`, frame `a_i` at `B + 4 i` -/

/-- The vectors' parameters, with a CSR window away from 0. -/
def params : Config.Params := { Config.reference with c := 8, q := 4, csrBase := 0x40001000 }

/-- `B`. -/
def base : Addr := 0x20000000

/-- `a_0` to `a_{n-1}`. -/
def frames (n : Nat) : List Frame := (List.range n).map fun i => BitVec.ofNat 32 (0x00010001 * (i + 1))

/-- Host memory with `a_0` to `a_7` at `B`. -/
def memory : Memory :=
  (List.range 8).flatMap fun i =>
    [(0x20000000 + 4 * i, BitVec.ofNat 8 (i + 1)), (0x20000000 + 4 * i + 2, BitVec.ofNat 8 (i + 1))]

def afterReset : State := { State.powerOn params with hostMem := memory }

/-- "After INIT" of the vectors. -/
def afterInit : State :=
  { afterReset with
    state := .idle, irqEn := true, sampleRate := 48000, bclkHz := 1536000, divInt := 48, divFrac := 212, result0 := 1 }

/-- After INIT and `WRITE B, n`. -/
def filled (n : Nat) : State :=
  { afterInit with ring := frames n ++ List.replicate (8 - n) 0, widx := n % 8, count := n }

/-- After INIT, `WRITE B, n` with `4 ≤ n`, and START. -/
def playing (n : Nat) : State :=
  { filled n with
    slot0 := frames 4, ridx := 4, count := n - 4, state := .streaming, playing := true, armed := true, clkEn := true }

/-- The same after four BEATs. -/
def drained (n : Nat) : State := { playing n with xferPos := 4, out := frames 4 }

/-- The same after COMPLETE. -/
def pending (n : Nat) : State := { drained n with armed := false, pending := true }

/-- After STOP of `playing n`. -/
def halted (n : Nat) : State :=
  { playing n with state := .stopped, playing := false, armed := false, clkEn := false }

/-- `s`, about to take `inputs`. -/
def taking (s : State) (inputs : List Input) : State := { s with inputs := inputs }

/-- `s`, with the operands of a command in ARG0 and ARG1. -/
def operands (s : State) (arg0 arg1 : Word) : State := { s with arg0 := arg0, arg1 := arg1 }

/-- `s`, with the operands of `INIT rate, bits, ch` and the answer to its claim. -/
def initOperands (s : State) (rate bits ch : Word) (claim : Bool) : State :=
  { s with arg0 := rate, arg1 := bits, arg2 := ch, claims := [claim] }

/-- What `f` reads in the next state, if there is one. -/
def after {α : Type} (o : Host.Outcome State Fault Refusal) (f : State → α) : Option α :=
  match o with
  | .next t => some (f t)
  | .fault _ => none
  | .refused _ => none

/-! ### Commands -/

/-- W1. -/
theorem test_write_accepts :
    after (exec .write (operands afterInit 6 base)) (fun t => (t.ring, t.widx, t.ridx, t.count, t.result0, t.overrun)) =
      some (frames 6 ++ [0, 0], 6, 0, 6, 6, 0) := by decide

/-- W3: one frame fits at index 3, four are offered. -/
theorem test_write_truncates :
    after (exec .write (operands { playing 8 with ridx := 4, widx := 3, count := 7 } 4 base))
      (fun t => (t.ring[3]?, t.widx, t.count, t.result0, t.overrun)) =
      some (some 0x00010001, 4, 8, 1, 1) := by decide

/-- T2: silence pads the first quantum and no underrun is counted. -/
theorem test_start_pads :
    after (exec .start (filled 2)) (fun t => (t.slot0, t.count, t.ridx, t.underrun, statusWord t)) =
      some (frames 2 ++ [0, 0], 0, 2, 0, 0xDA) := by decide

/-- T6: START from STOPPED with slot 1 active. -/
theorem test_start_forces_slot_zero :
    after (exec .start { halted 4 with active := .one }) (fun t => (t.active, t.slot0, statusWord t)) =
      some (.zero, [0, 0, 0, 0], 0xDA) := by decide

/-- P1v. -/
theorem test_stop_streaming :
    after (exec .stop { playing 6 with xferPos := 2, out := frames 2 })
      (fun t => (t.xferPos, t.out, t.count, statusWord t)) = some (0, frames 2, 2, 0x83) := by decide

/-- P2v: a pending completion is discarded. -/
theorem test_stop_pending :
    after (exec .stop (pending 8)) (fun t => (t.pending, t.count, statusWord t)) = some (false, 4, 0x83) := by decide

/-- K1. -/
theorem test_clear_idle :
    after (exec .clear (filled 3)) (fun t => (t.ring, t.count, t.widx, t.ridx, statusWord t)) =
      some (List.replicate 8 0, 0, 0, 0, 0x81) := by decide

/-- K2: the counters and the active slot stay. -/
theorem test_clear_streaming :
    after (exec .clear { playing 8 with underrun := 1, overrun := 1, active := .one })
      (fun t => (t.slot0, t.count, t.underrun, t.overrun, statusWord t)) =
      some ([0, 0, 0, 0], 0, 1, 1, 0x87) := by decide

/-- I1v, I17v. -/
theorem test_init_44100 :
    after (exec .init (initOperands afterReset 44100 16 2 true))
      (fun t => (statusWord t, t.result0, t.bclkHz, clkdivWord t)) = some (0x81, 1, 1411200, 0x00352500) := by decide

/-- I20v, I21v, I22v, I23v: the order of the checks. -/
theorem test_init_failures :
    after (exec .init (initOperands afterReset 0 24 2 true)) statusWord = some 0x100 ∧
      after (exec .init (initOperands afterReset 35 16 2 true)) statusWord = some 0x300 ∧
      after (exec .init (initOperands afterReset 44100 16 2 false)) statusWord = some 0x400 ∧
      after (exec .init (initOperands afterInit 48000 24 1 true)) statusWord = some 0x281 := by decide

/-- G1, G2. -/
theorem test_snapshots :
    after (exec .getFreeSpace afterReset) State.result0 = some 8 ∧
      after (exec .getFreeSpace (filled 3)) State.result0 = some 5 ∧
      after (exec .getBufferedCount (filled 3)) State.result0 = some 3 := by decide

/-- GS4. -/
theorem test_stats :
    after (exec .getStats { afterInit with underrun := 3, overrun := 2 }) (fun t => (t.result0, t.result1)) =
      some (3, 2) := by decide

/-! ### Events -/

/-- B1, and B2's end: not enabled at `Q`. -/
theorem test_beat :
    (beat (playing 4)).out = [0x00010001] ∧ (beat (playing 4)).xferPos = 1 ∧ beat (drained 4) = drained 4 := by decide

/-- B3. -/
theorem test_complete : statusWord (complete (drained 4)) = 0xEA := by decide

/-- S1: a refill. -/
theorem test_service_refill :
    (service (pending 8)).slot0 = (frames 8).drop 4 ∧ (service (pending 8)).count = 0 ∧
      (service (pending 8)).underrun = 0 ∧ statusWord (service (pending 8)) = 0xDE := by decide

/-- S3: an underrun, with three frames left in the ring. -/
theorem test_service_underrun :
    (service (pending 7)).slot0 = [0, 0, 0, 0] ∧ (service (pending 7)).count = 3 ∧
      (service (pending 7)).underrun = 1 := by decide

/-- S5. -/
theorem test_service_saturates :
    (service { pending 4 with underrun := 0xFFFFFFFF }).underrun = 0xFFFFFFFF := by decide

/-! ### The bus, host memory and the step -/

/-- W12: little-endian frames. -/
theorem test_frame_layout :
    memRead [(0x20000000, 0x34), (0x20000001, 0x12), (0x20000002, 0xCD), (0x20000003, 0xAB)] 0x20000000 = 0xABCD1234 ∧
      leftSample 0xABCD1234 = 0x1234 ∧ rightSample 0xABCD1234 = 0xABCD := by decide

/-- W11: byte addresses wrap. -/
theorem test_frame_wraps :
    frameAddr 0xFFFFFFFC 1 = 0 := by decide

/-- X2, X9: registers read through the window. -/
theorem test_csr_reads :
    after (step (taking afterReset [csrr params 0x20])) State.readData = some 8 ∧
      after (step (taking afterReset [csrr params 0x44])) State.readData = some 4 ∧
      after (step (taking afterInit [csrr params 0x3C])) State.readData = some 0x0030D400 := by decide

/-- X5: a write to a read-only register is ignored. -/
theorem test_csr_read_only :
    after (step (taking afterInit [csrw params 0x2C 5])) id = some afterInit := by decide

/-- X8: a byte write, and a word access at offset 2. -/
theorem test_csr_refusals :
    step (taking afterInit [.busWrite 0x40001000 1 1]) = .refused .csrAccess ∧
      step (taking afterInit [.busRead 0x40001002 4]) = .refused .csrAccess := ⟨rfl, rfl⟩

/-- L2v: an illegal word while streaming. -/
theorem test_illegal :
    after (step (taking (playing 4) [csrw params 0 0x13])) statusWord = some 0x6DA := by decide

/-- R1v: the reset input. -/
theorem test_reset_input :
    after (step (taking { playing 4 with xferPos := 2, out := frames 2 } [.reset])) (fun t => (statusWord t, t.out)) =
      some (0, frames 2) := by decide

/-- The state after reset runs a command placed as its next input: START is refused with NOT_INIT (T7). -/
theorem test_fetch_word :
    after (step (State.reset.withFetchWord 32 3)) statusWord = some 0x500 := by decide

theorem test_reset_memory : State.reset.hostMem.wf = true := by rfl

/-! ### A state and operands that meet the hypotheses of each statement -/

/-! Encoding and the step -/

theorem witness_OpcodeMapIsTotal :
    (0x00000010 : Word).extractLsb' 4 28 ≠ 0 ∧ (0xFFFFFFFF : Word).extractLsb' 4 28 ≠ 0 ∧
      ((0x00000000 : Word).extractLsb' 0 4).toNat = 0 ∧ 9 ≤ ((0x00000009 : Word).extractLsb' 0 4).toNat ∧
      9 ≤ ((0x0000000F : Word).extractLsb' 0 4).toNat := by decide

theorem witness_StepRunsTheDecodedCommand :
    afterInit.params.wf = true ∧ Instr.start.wf = true ∧
      (taking afterInit [.busWrite 0x40001000 4 3]).inputs = [.busWrite afterInit.params.csrBase 4 3] ∧
      decode 3 = .ok .start := ⟨by decide, rfl, rfl, rfl⟩

theorem witness_IllegalWordOnlyReports :
    afterInit.params.wf = true ∧
      (taking afterInit [.busWrite 0x40001000 4 9]).inputs = [.busWrite afterInit.params.csrBase 4 9] ∧
      decode 9 = .error .reservedOpcode ∧ decode 0x10 = .error .reservedBits := ⟨by decide, rfl, rfl, rfl⟩

theorem witness_BadParametersAreRefused :
    step { afterInit with params := { params with q := 9 } } = .refused .parameters ∧
      step { afterInit with params := { params with edgeFactor := 65536 } } = .refused .parameters := ⟨rfl, rfl⟩

/-! INIT -/

theorem witness_InitOutcomes_reinit : afterInit.state ≠ .uninit := by decide
theorem witness_InitOutcomes_format :
    afterReset.state = .uninit ∧ ¬((initOperands afterReset 44100 16 1 true).arg1 = 16 ∧
      (initOperands afterReset 44100 16 1 true).arg2 = 2) := by decide
theorem witness_InitOutcomes_rate :
    (initOperands afterReset 35 16 2 true).state = .uninit ∧ (initOperands afterReset 35 16 2 true).arg1 = 16 ∧
      (initOperands afterReset 35 16 2 true).arg2 = 2 ∧ divisor params (35 : Word).toNat = none ∧
      divisor params (0 : Word).toNat = none ∧ divisor params (2343751 : Word).toNat = none := by decide
theorem witness_InitOutcomes_claim_refused :
    (initOperands afterReset 36 16 2 false).state = .uninit ∧ (initOperands afterReset 36 16 2 false).arg1 = 16 ∧
      (initOperands afterReset 36 16 2 false).arg2 = 2 ∧
      divisor params (36 : Word).toNat = some { bclk := 1152, dint := 65104, dfrac := 42 } ∧
      claimAnswer (initOperands afterReset 36 16 2 false) = false := by decide
theorem witness_InitOutcomes_commit :
    (initOperands afterReset 2343750 16 2 true).state = .uninit ∧
      (initOperands afterReset 2343750 16 2 true).arg1 = 16 ∧ (initOperands afterReset 2343750 16 2 true).arg2 = 2 ∧
      divisor params (2343750 : Word).toNat = some { bclk := 75000000, dint := 1, dfrac := 0 } ∧
      claimAnswer (initOperands afterReset 2343750 16 2 true) = true := by decide

theorem witness_ClaimIsADraw :
    (initOperands afterReset 1 16 2 false).claims = [false] ∧ afterReset.claims = [] := by decide

theorem witness_DivisorIsExact :
    params.wf = true ∧ params.sysClkHz = 150000000 ∧ params.edgeFactor = 2 := by decide

/-! WRITE and the ring -/

theorem witness_WriteOutcomes_uninit : afterReset.ring.length = afterReset.params.c ∧ afterReset.state = .uninit := by
  decide
theorem witness_WriteOutcomes_invalid :
    (operands afterInit 4 0).arg1 = 0 ∧ (operands afterInit 0 base).arg0 = 0 ∧
      (operands afterInit 4 0x20000001).arg1.toNat % 4 ≠ 0 := by decide
/-- No frame fits, one fits, all fit, and the greatest count. -/
theorem witness_WriteOutcomes_accepts :
    (filled 8).ring.length = params.c ∧ (filled 8).state ≠ .uninit ∧ base ≠ 0 ∧ base.toNat % 4 = 0 ∧
      0 = min (1 : Word).toNat (params.c - (filled 8).count) ∧
      1 = min (4 : Word).toNat (params.c - (filled 7).count) ∧
      8 = min (8 : Word).toNat (params.c - (filled 0).count) ∧
      8 = min (0xFFFFFFFF : Word).toNat (params.c - (filled 0).count) := by decide

theorem inv_filled : Inv (filled 6) := by constructor <;> decide
theorem inv_playing : Inv (playing 6) := by constructor <;> decide

theorem witness_WriteKeepsBufferedFrames :
    Inv (filled 6) ∧ (filled 6).state ≠ .uninit ∧ (operands (filled 6) 4 base).arg1 ≠ 0 ∧
      (operands (filled 6) 4 base).arg0 ≠ 0 ∧ (operands (filled 6) 4 base).arg1.toNat % 4 = 0 :=
  ⟨inv_filled, by decide, by decide, by decide, by decide⟩

/-- A machine with a ring of two frames and quanta of one. -/
def tiny : Config.Params := { Config.reference with c := 2, q := 1 }

/-- It is initialised, takes a frame, starts, emits the frame and completes. -/
def tinyRun : State :=
  { State.powerOn tiny with
    inputs := asmInit tiny 48000 16 2 ++ asmWrite tiny base 1 ++ asmStart tiny ++ [.beat, .complete]
    hostMem := memory
    claims := [true] }

/-- The state after one step, where there is one. -/
def advance (s : State) : State := (after (step s) id).getD s

/-- `tinyRun` after `n` steps: IDLE from 4, STREAMING from 8, pending at 10. -/
def tinyAt : Nat → State
  | 0 => tinyRun
  | n + 1 => advance (tinyAt n)

theorem powerOn_tinyRun : PowerOn tinyRun := ⟨by decide, by decide, by decide, by decide, by decide, rfl⟩

/-- The history of `tinyRun` up to START: one frame accepted, and drained. -/
theorem witness_RingIsAFifo :
    ∃ s accepted drained, History s accepted drained ∧ accepted = [0x00010001] ∧ drained = [0x00010001] := by
  have h3 := (((History.powerOn powerOn_tinyRun).step (t := tinyAt 1) rfl rfl).step (t := tinyAt 2) rfl rfl).step
    (t := tinyAt 3) rfl rfl
  have h4 := h3.emptied (t := tinyAt 4) rfl rfl
  have h8 := (((h4.step (t := tinyAt 5) rfl rfl).step (t := tinyAt 6) rfl rfl).step (t := tinyAt 7) rfl rfl).step
    (t := tinyAt 8) rfl rfl
  exact ⟨_, _, _, h8, by decide, by decide⟩

theorem reachable_idle : Reachable (tinyAt 4) :=
  .step (.step (.step (.step (.powerOn powerOn_tinyRun) (t := tinyAt 1) rfl) (t := tinyAt 2) rfl)
    (t := tinyAt 3) rfl) rfl

theorem reachable_streaming : Reachable (tinyAt 8) :=
  .step (.step (.step (.step reachable_idle (t := tinyAt 5) rfl) (t := tinyAt 6) rfl) (t := tinyAt 7) rfl) rfl

theorem reachable_pending : Reachable (tinyAt 10) := .step (.step reachable_streaming (t := tinyAt 9) rfl) rfl

/-- A step that accepts, one that drains, one that empties the ring, and a ring that holds frames. -/
theorem witness_StepKeepsTheRingAFifo :
    Inv (taking (operands (filled 6) 2 base) [csrw params 0 (encode .write)]) ∧ frames 6 = [] ++ buffered (filled 6) ∧
      (∃ t, step (taking (operands (filled 6) 2 base) [csrw params 0 (encode .write)]) = .next t) ∧
      emptiesRing (csrw params 0 (encode .write)) (operands (filled 6) 2 base) = false ∧
      acceptedBy (csrw params 0 (encode .write)) (operands (filled 6) 2 base) = frames 2 ∧
      (∃ t, step (taking (filled 6) (asmStart params)) = .next t) ∧
      emptiesRing (csrw params 0 (encode .start)) (filled 6) = false ∧
      drainedBy (csrw params 0 (encode .start)) (filled 6) = frames 4 ∧
      (∃ t, step (taking (filled 6) (asmClear params)) = .next t) ∧
      emptiesRing (csrw params 0 (encode .clear)) (filled 6) = true ∧ emptiesRing .reset (filled 6) = true :=
  ⟨by constructor <;> decide, by decide, ⟨_, rfl⟩, by decide, by decide, ⟨_, rfl⟩, by decide, by decide, ⟨_, rfl⟩,
    by decide, by decide⟩

/-- A run without WRITE, and then a WRITE of exactly the free space there was at its start. -/
theorem witness_SnapshotsBoundLaterCounts :
    ∃ t, Inv (operands (filled 6) 2 base) ∧ NoWrite (taking (operands (filled 6) 2 base) (asmStart params)) t ∧
      t.state ≠ .uninit ∧ writeInvalid t = false ∧ t.arg0.toNat ≤ freeSpace (operands (filled 6) 2 base) :=
  ⟨advance (taking (operands (filled 6) 2 base) (asmStart params)), by constructor <;> decide,
    (NoWrite.refl _).step rfl (by decide), by decide, by decide, by decide⟩

/-! The scheduler -/

theorem witness_StartOutcomes :
    afterReset.state = .uninit ∧ (playing 4).state = .streaming ∧
      ((filled 0).state = .idle ∧ 0 = min params.q (filled 0).count) ∧
      ((filled 3).state = .idle ∧ 3 = min params.q (filled 3).count) ∧
      ((halted 8).state = .stopped ∧ 4 = min params.q (halted 8).count) := by decide

theorem witness_StopOutcomes :
    afterReset.state = .uninit ∧ afterInit.state = .idle ∧ (halted 4).state = .stopped ∧
      (playing 4).state = .streaming := by decide

theorem witness_ClearOutcomes :
    afterReset.state = .uninit ∧ (filled 3).state = .idle ∧ (halted 4).state = .stopped ∧
      (pending 4).state = .streaming := by decide

theorem witness_StartAndStopAreIdempotent :
    (∃ t, exec .start (filled 6) = .next t) ∧ (∃ t, exec .stop (playing 6) = .next t) := ⟨⟨_, rfl⟩, ⟨_, rfl⟩⟩

/-- The first and the last frame of a slot. -/
theorem witness_BeatDeliversTheNextFrame :
    (taking (playing 4) [.beat]).params.wf = true ∧ (playing 4).armed = true ∧ (playing 4).clkEn = true ∧
      (playing 4).xferPos < params.q ∧ (slotFrames (playing 4) .zero)[0]? = some 0x00010001 ∧
      { playing 4 with xferPos := 3 }.xferPos < params.q ∧
      (slotFrames { playing 4 with xferPos := 3 } .zero)[3]? = some 0x00040004 := by decide

theorem witness_CompleteRaisesTheSignal :
    (taking (drained 4) [.complete]).params.wf = true ∧ (drained 4).armed = true ∧ (drained 4).xferPos = params.q := by
  decide

/-- A count of exactly `Q`, and one less. -/
theorem witness_ServiceSwapsRefillsAndRearms :
    (taking (pending 8) [.service]).params.wf = true ∧ (pending 8).pending = true ∧ (pending 8).irqEn = true ∧
      (pending 8).state = .streaming ∧ params.q ≤ (pending 8).count ∧ (pending 7).pending = true ∧
      (pending 7).count < params.q := by decide

theorem witness_DisabledEventsChangeNothing :
    afterInit.params.wf = true ∧ (taking afterInit [.beat]).inputs = .beat :: [] ∧ ¬(afterInit.armed = true) ∧
      (taking (drained 4) [.beat]).inputs = .beat :: [] ∧ ¬((drained 4).xferPos < params.q) ∧
      (taking (playing 4) [.complete]).inputs = .complete :: [] ∧ ¬((playing 4).xferPos = params.q) ∧
      (taking (playing 4) [.service]).inputs = .service :: [] ∧ ¬((playing 4).pending = true) := by decide

theorem witness_ArmedSlotIsNotWritten :
    ∃ t, Inv (playing 6) ∧ (playing 6).armed = true ∧
      step (taking (playing 6) [csrw params 0 (encode .write)]) = .next t ∧ t.armed = true :=
  ⟨advance (taking (playing 6) [csrw params 0 (encode .write)]), inv_playing, by decide, rfl, by decide⟩

theorem witness_SchedulerTransitions : ∃ t, step (taking (filled 6) (asmStart params)) = .next t := ⟨_, rfl⟩

theorem witness_QuantumEmitsTheActiveSlot :
    Inv (taking (playing 8) (asmQuantum params)) ∧ (playing 8).armed = true ∧ (playing 8).xferPos = 0 ∧
      (taking (playing 8) (asmQuantum params)).inputs = asmQuantum (playing 8).params ++ [] :=
  ⟨by constructor <;> decide, by decide, by decide, by decide⟩

theorem witness_EpisodeOutput :
    Inv (taking (filled 6) (asmStart params ++ asmQuanta params 3)) ∧ (filled 6).state = .idle ∧
      (taking (filled 6) (asmStart params ++ asmQuanta params 3)).inputs =
        asmStart (filled 6).params ++ asmQuanta (filled 6).params 3 ++ [] :=
  ⟨by constructor <;> decide, by decide, by decide⟩

theorem witness_EpisodeUnderruns :
    Inv (taking (halted 8) (asmStart params ++ asmQuanta params 2)) ∧ (halted 8).state = .stopped ∧
      (taking (halted 8) (asmStart params ++ asmQuanta params 2)).inputs =
        asmStart (halted 8).params ++ asmQuanta (halted 8).params 2 ++ [] ∧
      0 = (halted 8).count - min (halted 8).count params.q :=
  ⟨by constructor <;> decide, by decide, by decide, by decide⟩

/-- `playing 8` with slot 1 active, between two frames. -/
def inSlotOne : State := { playing 8 with active := .one, xferPos := 2 }

theorem witness_StopThenStartReplaysSlotOne :
    Inv (taking inSlotOne (asmStop params ++ asmStart params ++ asmQuanta params 2)) ∧
      inSlotOne.state = .streaming ∧ inSlotOne.active = .one ∧
      (taking inSlotOne (asmStop params ++ asmStart params ++ asmQuanta params 2)).inputs =
        asmStop inSlotOne.params ++ asmStart inSlotOne.params ++ asmQuanta inSlotOne.params 2 ++ [] :=
  ⟨by constructor <;> decide, by decide, by decide, by decide⟩

/-- Six stretches of a GET_STATS and the three events, from the start of a slot. -/
def stretches : List (List Input) := List.replicate 6 [csrw params 0 (encode .getStats), .service, .complete, .beat]

theorem witness_FairStretchesKeepEmitting :
    Inv (taking (playing 8) stretches.flatten) ∧ (playing 8).state = .streaming ∧
      (taking (playing 8) stretches.flatten).inputs = stretches.flatten ++ [] ∧ (∀ r ∈ stretches, fairRound r) ∧
      (∀ i ∈ stretches.flatten, keepsStreaming params i) ∧ 1 * (params.q + 2) ≤ stretches.length := by
  refine ⟨by constructor <;> decide, by decide, by decide, ?_, ?_, by decide⟩
  · intro r hr
    rw [List.eq_of_mem_replicate hr]
    exact ⟨by decide, by decide, by decide⟩
  · intro i hi
    obtain ⟨r, hr, hi⟩ := List.mem_flatten.mp hi
    rw [List.eq_of_mem_replicate hr] at hi
    simp only [List.mem_cons, List.not_mem_nil, or_false] at hi
    rcases hi with rfl | rfl | rfl | rfl <;> exact ⟨by decide, by decide, by decide, by decide⟩

/-! The order of steps -/

theorem witness_StopAndServiceDoNotCommute :
    Inv (taking (pending 8) (asmStop params ++ [.service])) ∧ (pending 8).pending = true ∧
      (taking (pending 8) (asmStop params ++ [.service])).inputs = asmStop (pending 8).params ++ [.service] ++ [] ∧
      params.q ≤ (pending 8).count ∧
      Inv (taking (pending 7) ([.service] ++ asmStop params)) ∧ (pending 7).pending = true ∧
      (taking (pending 7) ([.service] ++ asmStop params)).inputs = [.service] ++ asmStop (pending 7).params ++ [] ∧
      (pending 7).count < params.q :=
  ⟨by constructor <;> decide, by decide, by decide, by decide, by constructor <;> decide, by decide, by decide,
    by decide⟩

theorem witness_WriteBeforeServiceAvoidsTheUnderrun :
    Inv (taking (operands (pending 7) 1 base) [csrw params 0 (encode .write), .service]) ∧
      (pending 7).pending = true ∧ writeInvalid (operands (pending 7) 1 base) = false ∧
      (pending 7).count < params.q ∧
      params.q ≤ (pending 7).count + writeAccepted (operands (pending 7) 1 base) ∧
      (taking (operands (pending 7) 1 base) [csrw params 0 (encode .write), .service]).inputs =
        [csrw (pending 7).params 0 (encode .write), .service] ++ [] ∧
      Inv (taking (operands (pending 7) 1 base) [.service, csrw params 0 (encode .write)]) :=
  ⟨by constructor <;> decide, by decide, by decide, by decide, by decide, by decide, by constructor <;> decide⟩

theorem witness_BeatCommutesWithCommands :
    ∃ t, Inv (playing 6) ∧ beatEnabled (playing 6) = true ∧ Instr.start ≠ .stop ∧ Instr.start ≠ .clear ∧
      exec .start (playing 6) = .next t := ⟨_, inv_playing, by decide, by decide, by decide, rfl⟩

/-! The CSR window and host memory -/

theorem witness_CsrReadReturnsTheRegister :
    afterInit.params.wf = true ∧
      (taking afterInit [csrr params 0x48]).inputs = [.busRead (afterInit.params.csrBase + BitVec.ofNat 32 0x48) 4] ∧
      (0x48 % 4 = 0 ∧ 0x48 ≤ 0x48 ∧ 0x48 ≤ 0xFC) ∧ (0xFC % 4 = 0 ∧ 0x48 ≤ 0xFC ∧ 0xFC ≤ 0xFC) := by decide

theorem witness_CsrWriteEffects :
    afterInit.params.wf = true ∧
      (taking afterInit [csrw params 0x10 7]).inputs =
        [.busWrite (afterInit.params.csrBase + BitVec.ofNat 32 0x10) 4 7] ∧
      (0x10 % 4 = 0 ∧ 0x10 ≤ 0x10 ∧ 0x10 ≤ 0xFC) ∧ (0xFC % 4 = 0 ∧ 0x10 ≤ 0xFC ∧ 0xFC ≤ 0xFC) := by decide

theorem witness_OddCsrAccessIsRefused :
    afterInit.params.wf = true ∧ 2 ≠ 4 ∧ ((0x40001001 : Addr) - params.csrBase).toNat % 4 ≠ 0 ∧
      0xFC < ((0x40001100 : Addr) - params.csrBase).toNat ∧ 0xFC < ((0x40000FFC : Addr) - params.csrBase).toNat := by
  decide

theorem witness_HostStoreChangesOneByte :
    Inv (taking (filled 6) [.hostStore 0xFFFFFFFF 7]) ∧
      (taking (filled 6) [.hostStore 0xFFFFFFFF 7]).inputs = [.hostStore 0xFFFFFFFF 7] :=
  ⟨by constructor <;> decide, by decide⟩

/-! Errors, counters, configuration, output -/

theorem witness_UninitGuard : afterReset.state = .uninit := by decide

theorem witness_FailureIsPrecise : ∃ t, exec .start afterReset = .next t ∧ t.err ≠ .ok :=
  ⟨_, rfl, by decide⟩

theorem witness_CommandFrame : ∃ t, exec .write (operands (filled 6) 2 base) = .next t := ⟨_, rfl⟩

theorem witness_OutcomeIsOverwritten :
    ∃ t, step (taking (playing 6) [.beat]) = .next t ∧
      isCmdWrite params (nextInput (taking (playing 6) [.beat])) = false ∧
      nextInput (taking (playing 6) [.beat]) ≠ .reset := ⟨_, rfl, by decide, by decide⟩

/-- Each of the four premises: both counters rise, and fall. -/
theorem witness_CounterDiscipline :
    (0 : Word).toNat < (advance (taking (pending 7) [.service])).underrun.toNat ∧
      (advance (taking { pending 7 with underrun := 1 } [.reset])).underrun.toNat < (1 : Word).toNat ∧
      (0 : Word).toNat <
        (advance (taking (operands (filled 8) 1 base) [csrw params 0 (encode .write)])).overrun.toNat ∧
      (advance (taking { filled 8 with overrun := 1 } [.reset])).overrun.toNat < (1 : Word).toNat := by decide

theorem witness_ConfigurationStands :
    (∃ t, step (taking (playing 6) [.beat]) = .next t) ∧ (playing 6).state ≠ .uninit ∧
      Reachable (tinyAt 4) ∧ (tinyAt 4).state ≠ .uninit :=
  ⟨⟨_, rfl⟩, by decide, reachable_idle, by decide⟩

theorem witness_OutIsWrittenByBeatAndNeverRead : ∃ t, step (taking (playing 6) [.beat]) = .next t := ⟨_, rfl⟩

theorem witness_WritersOfTheState : ∃ t, Inv (taking (pending 8) [.service]) ∧
    step (taking (pending 8) [.service]) = .next t := ⟨_, by constructor <;> decide, rfl⟩

/-! Reset and invariants -/

theorem witness_PowerOnValues : State.reset = State.powerOn Config.reference := rfl

theorem witness_ResetInputEffect :
    (taking (pending 8) [.reset]).params.wf = true ∧ (taking (pending 8) [.reset]).inputs = [.reset] := by decide

theorem witness_PowerOnMeetsTheInvariant : PowerOn tinyRun := powerOn_tinyRun

theorem witness_StepKeepsTheInvariant : ∃ t, Inv (taking (drained 8) [.complete]) ∧
    step (taking (drained 8) [.complete]) = .next t := ⟨_, by constructor <;> decide, rfl⟩

/-- Reachable states in UNINIT, IDLE and STREAMING, with the engine armed and with a completion pending. -/
theorem witness_ReachableStatesMeetTheRules :
    (Reachable (tinyAt 0) ∧ (tinyAt 0).state = .uninit) ∧ (Reachable (tinyAt 4) ∧ (tinyAt 4).state = .idle) ∧
      (Reachable (tinyAt 8) ∧ (tinyAt 8).state = .streaming ∧ (tinyAt 8).armed = true) ∧
      (Reachable (tinyAt 10) ∧ (tinyAt 10).pending = true) :=
  ⟨⟨.powerOn powerOn_tinyRun, by decide⟩, ⟨reachable_idle, by decide⟩,
    ⟨reachable_streaming, by decide, by decide⟩, ⟨reachable_pending, by decide⟩⟩

theorem witness_UninitHoldsResetValues : Reachable tinyRun ∧ tinyRun.state = .uninit :=
  ⟨.powerOn powerOn_tinyRun, by decide⟩

theorem witness_CollaboratorContract :
    Reachable (tinyAt 8) ∧ generatorConfig (tinyAt 8) = some { divisor256 := 12500, pins := 0 } ∧
      armedTransfer (tinyAt 8) = some { buffer := .zero, length := 1, destination := 0 } :=
  ⟨reachable_streaming, by decide, by decide⟩

theorem witness_PseudoInstructionsRunTheirCommands :
    afterReset.params.wf = true ∧
      (taking afterReset (asmInit params 48000 16 2)).inputs = asmInit afterReset.params 48000 16 2 ++ [] ∧
      (taking afterReset (asmWrite params base 6)).inputs = asmWrite afterReset.params base 6 ++ [] := by decide

end Sys2Proof.Tests
end

/-! PROOFS. The whole step and its parameters, and the saturating increment (00_scope.md R7, R9, R11). -/

namespace Sys2Proof.Machine

/-! ### What a command and an input can answer -/

/-- A command that meets an error still answers a next state: errors are outcomes, never refusals (60_exceptions.md
R94, R95). -/
theorem exec_answers (i : Instr) (s : State) : ∃ t, exec i s = .next t := by
  cases i with
  | init =>
    simp only [exec, execInit]
    split
    · exact ⟨_, rfl⟩
    · split
      · exact ⟨_, rfl⟩
      · split
        · exact ⟨_, rfl⟩
        · split <;> exact ⟨_, rfl⟩
  | write =>
    simp only [exec, execWrite]
    split
    · exact ⟨_, rfl⟩
    · split <;> exact ⟨_, rfl⟩
  | start => simp only [exec, execStart]; split <;> exact ⟨_, rfl⟩
  | stop => simp only [exec, execStop]; split <;> exact ⟨_, rfl⟩
  | clear => simp only [exec, execClear]; split <;> exact ⟨_, rfl⟩
  | getFreeSpace => exact ⟨_, rfl⟩
  | getBufferedCount => exact ⟨_, rfl⟩
  | getStats => exact ⟨_, rfl⟩

theorem csrWrite_answers (off : Nat) (v : Word) (s : State) : ∃ t, csrWrite off v s = .next t := by
  unfold csrWrite
  split
  · unfold execute
    split
    · exact exec_answers _ s
    · exact ⟨_, rfl⟩
  all_goals exact ⟨_, rfl⟩

/-- The only inputs without a next state are the CSR accesses that the window does not admit (44_stats_and_bus.md R91,
20_memory.md R41). -/
theorem perform_answers (i : Input) (s : State) :
    (∃ t, perform i s = .next t) ∨ perform i s = .refused .csrAccess := by
  cases i with
  | busRead addr size =>
    simp only [perform, busRead]
    split
    · exact .inl ⟨_, rfl⟩
    · exact .inr rfl
  | busWrite addr size data =>
    simp only [perform, busWrite]
    split
    · exact .inl (csrWrite_answers _ data s)
    · exact .inr rfl
  | beat => exact .inl ⟨_, rfl⟩
  | complete => exact .inl ⟨_, rfl⟩
  | service => exact .inl ⟨_, rfl⟩
  | reset => exact .inl ⟨_, rfl⟩
  | hostStore addr v => exact .inl ⟨_, rfl⟩

theorem perform_ne_refused_parameters (i : Input) (s : State) : perform i s ≠ .refused .parameters := by
  rcases perform_answers i s with ⟨t, h⟩ | h <;> simp [h]

/-! ### The parameters -/

theorem params_wf_iff (p : Config.Params) :
    p.wf = true ↔ 1 ≤ p.q ∧ p.q ≤ p.c ∧ p.c ≤ 2 ^ 31 - 1 ∧ 1 ≤ p.edgeFactor ∧ p.edgeFactor ≤ 2 ^ 16 - 1 ∧
      1 ≤ p.sysClkHz ∧ p.sysClkHz ≤ 2 ^ 32 - 1 := by
  simp only [Config.Params.wf, Bool.and_eq_true, decide_eq_true_eq, and_assoc]

theorem step_refused_parameters_iff (s : State) : step s = .refused .parameters ↔ ¬ s.params.wf = true := by
  unfold step stepInput
  split <;> rename_i hp
  · exact iff_of_false (perform_ne_refused_parameters _ _) (not_not_intro hp)
  · exact iff_of_true rfl hp

/-- Settles O6: no input is refused for the parameters, so the guard of the step is the only source of that refusal. -/
theorem badParametersAreRefused : Obligations.BadParametersAreRefused := by
  intro s
  rw [step_refused_parameters_iff, params_wf_iff]

/-! ### The CMD write -/

/-- The per-command facts of `Laws.Encoding`, as one statement about every command. -/
theorem encoding_statement : ∀ i : Instr, Laws.Encoding.Statement i
  | .init => Laws.Encoding.init
  | .write => Laws.Encoding.write
  | .start => Laws.Encoding.start
  | .stop => Laws.Encoding.stop
  | .clear => Laws.Encoding.clear
  | .getFreeSpace => Laws.Encoding.getFreeSpace
  | .getBufferedCount => Laws.Encoding.getBufferedCount
  | .getStats => Laws.Encoding.getStats

theorem decode_encode (i : Instr) : decode (encode i) = .ok i := by
  obtain ⟨-, -, hd, -⟩ := encoding_statement i
  exact hd

/-- A write to CMD of a word that decodes runs the command (44_stats_and_bus.md R92, offset 0x00). -/
theorem perform_commandInput {w : Word} {i : Instr} (hd : decode w = .ok i) (s : State) :
    perform (commandInput s.params w) s = exec i s := by
  simp only [perform, commandInput, busWrite, csrOffset_base, csrWrite, execute, hd]

theorem step_commandInput {s : State} {w : Word} {i : Instr} {rest : List Input} (hp : s.params.wf = true)
    (hin : s.inputs = commandInput s.params w :: rest) (hd : decode w = .ok i) :
    step s = exec i { s with inputs := rest } := by
  rw [step_cons hp hin]
  exact perform_commandInput hd { s with inputs := rest }

/-- `withFetchWord` puts the whole word `w` on the list: 32 bits drop none of it. -/
theorem withFetchWord_inputs (s : State) (w : Word) :
    (s.withFetchWord 32 w.toNat).inputs = commandInput s.params w :: s.inputs := by
  have hw : BitVec.ofNat 32 (w.toNat % 2 ^ 32) = w := by
    rw [Nat.mod_eq_of_lt w.isLt, BitVec.ofNat_toNat, BitVec.setWidth_eq]
  simp only [State.withFetchWord, hw]

/-- Settles O4: the listed input is performed, CMD is offset 0 of the window, and a command's encoding decodes to it. -/
theorem stepRunsTheDecodedCommand : Obligations.StepRunsTheDecodedCommand := by
  refine ⟨fun s w i rest hp _ hin hd => step_commandInput hp hin hd, fun s i hp _ => ?_⟩
  have hp' : (s.withFetchWord 32 (encode i).toNat).params.wf = true := hp
  exact step_commandInput hp' (withFetchWord_inputs s (encode i)) (decode_encode i)

/-! ### The saturating increment -/

theorem toNat_ne_max {x : Word} (h : x ≠ 0xFFFFFFFF) : x.toNat ≠ 0xFFFFFFFF :=
  fun he => h (BitVec.eq_of_toNat_eq he)

/-- Below the maximum, `sat_inc32` adds one without wrapping (10_state.md R30). -/
theorem satInc32_toNat_of_ne {x : Word} (h : x ≠ 0xFFFFFFFF) : (satInc32 x).toNat = x.toNat + 1 := by
  have hone : (1 : Word).toNat = 1 := rfl
  have hfits : x.toNat + (1 : Word).toNat < 2 ^ 32 := by
    have hx := toNat_ne_max h
    have hlt := x.isLt
    omega
  rw [satInc32, if_neg h, BitVec.toNat_add_of_lt hfits, hone]

theorem satInc32_max : satInc32 0xFFFFFFFF = 0xFFFFFFFF := rfl

/-- Settles O46, by whether the counter is already at its maximum. -/
theorem countersSaturate : Obligations.CountersSaturate := by
  intro x
  by_cases h : x = 0xFFFFFFFF
  · subst h
    rw [satInc32_max]
    rfl
  · have hx := toNat_ne_max h
    rw [satInc32_toNat_of_ne h]
    omega

end Sys2Proof.Machine

/-! PROOFS. The invariant of reachable states and what a step leaves unchanged (10_state.md). -/

namespace Sys2Proof.Safety

open Sys2Proof.Machine

/-! ### What a step can do -/

/-- What command `c` does to everything but the outcome registers: nothing (every error and snapshot, and a command
with nothing to do), or the one body its spec section gives it. -/
inductive CommandEffect : Instr → State → State → Prop where
  | unchanged (c : Instr) (s : State) : CommandEffect c s s
  | claimRefused (s : State) : CommandEffect .init s (consumeClaim s)
  | initCommit {s : State} {d : Divisor} (hstate : s.state = .uninit)
      (hdiv : divisor s.params (initRate s) = some d) : CommandEffect .init s (initCommit d (consumeClaim s))
  | acceptFrames {s : State} (hstate : s.state ≠ .uninit) : CommandEffect .write s (acceptFrames s)
  | startStreaming {s : State} (hstate : s.state = .idle ∨ s.state = .stopped) :
      CommandEffect .start s (startStreaming s)
  | stopBody {s : State} (hstate : s.state = .streaming) : CommandEffect .stop s (stopBody s)
  | clearStreaming {s : State} (hstate : s.state = .streaming) :
      CommandEffect .clear s (zeroBuffers (stopBody s))
  | clearHalted {s : State} (hstate : s.state = .idle ∨ s.state = .stopped) :
      CommandEffect .clear s (zeroBuffers s)

/-- A command is its effect followed by a write of the outcome registers. -/
theorem exec_effect {c : Instr} {s t : State} (h : exec c s = .next t) :
    ∃ u e r0 r1, CommandEffect c s u ∧ t = { u with err := e, result0 := r0, result1 := r1 } := by
  cases c with
  | init =>
    rcases execInit_next h with ⟨-, rfl⟩ | ⟨-, -, rfl⟩ | ⟨-, -, -, rfl⟩ | ⟨d, -, -, -, -, rfl⟩ |
      ⟨d, hs, -, hd, -, rfl⟩
    · exact ⟨s, _, _, _, .unchanged _ s, rfl⟩
    · exact ⟨s, _, _, _, .unchanged _ s, rfl⟩
    · exact ⟨s, _, _, _, .unchanged _ s, rfl⟩
    · exact ⟨_, _, _, _, .claimRefused s, rfl⟩
    · exact ⟨_, _, _, _, .initCommit hs hd, rfl⟩
  | write =>
    rcases execWrite_next h with ⟨-, rfl⟩ | ⟨-, -, rfl⟩ | ⟨hs, -, rfl⟩
    · exact ⟨s, _, _, _, .unchanged _ s, rfl⟩
    · exact ⟨s, _, _, _, .unchanged _ s, rfl⟩
    · exact ⟨_, _, _, _, .acceptFrames hs, rfl⟩
  | start =>
    rcases execStart_next h with ⟨-, rfl⟩ | ⟨-, rfl⟩ | ⟨hs, rfl⟩
    · exact ⟨s, _, _, _, .unchanged _ s, rfl⟩
    · exact ⟨s, _, _, _, .unchanged _ s, rfl⟩
    · exact ⟨_, _, _, _, .startStreaming hs, rfl⟩
  | stop =>
    rcases execStop_next h with ⟨-, rfl⟩ | ⟨hs, rfl⟩ | ⟨-, rfl⟩
    · exact ⟨s, _, _, _, .unchanged _ s, rfl⟩
    · exact ⟨_, _, _, _, .stopBody hs, rfl⟩
    · exact ⟨s, _, _, _, .unchanged _ s, rfl⟩
  | clear =>
    rcases execClear_next h with ⟨-, rfl⟩ | ⟨hs, rfl⟩ | ⟨hs, rfl⟩
    · exact ⟨s, _, _, _, .unchanged _ s, rfl⟩
    · exact ⟨_, _, _, _, .clearStreaming hs, rfl⟩
    · exact ⟨_, _, _, _, .clearHalted hs, rfl⟩
  | getFreeSpace => cases h; exact ⟨s, _, _, _, .unchanged _ s, rfl⟩
  | getBufferedCount => cases h; exact ⟨s, _, _, _, .unchanged _ s, rfl⟩
  | getStats => cases h; exact ⟨s, _, _, _, .unchanged _ s, rfl⟩

/-- What input `i` does to state `s`: run a command, report an illegal word, access a register, change host memory, or
be one of the four events. A write to a read-only or reserved offset is the case of `operands` that keeps all three. -/
inductive InputEffect (s : State) : Input → State → Prop where
  | command {i : Input} {c : Instr} {u : State} (e : ErrCode) (r0 r1 : Word) (hi : issued s.params i = some c)
      (hc : CommandEffect c s u) : InputEffect s i { u with err := e, result0 := r0, result1 := r1 }
  | illegal {i : Input} (hi : isCmdWrite s.params i = true) : InputEffect s i (illegalCommand s)
  | csrRead (a : Addr) (n : Nat) (v : Word) : InputEffect s (.busRead a n) { s with readData := v }
  | operands {a : Addr} (v x y z : Word) (ha : csrOffset s.params a 4 ≠ some 0) :
      InputEffect s (.busWrite a 4 v) { s with arg0 := x, arg1 := y, arg2 := z }
  | hostStore (a : Addr) (v : Byte) :
      InputEffect s (.hostStore a v) { s with hostMem := s.hostMem.write a.toNat v }
  | beat (he : beatEnabled s = true) : InputEffect s .beat
      { s with out := s.out ++ [slotRead s s.active s.xferPos], xferPos := s.xferPos + 1 }
  | complete (he : completeEnabled s = true) : InputEffect s .complete { s with armed := false, pending := true }
  | serviceRefill (he : serviceEnabled s = true) (hq : s.params.q ≤ s.count) : InputEffect s .service
      (arm (otherSlot s.active) (setSlot s.active (drainFrames s.params.q s) (drain s.params.q s)))
  | serviceUnderrun (he : serviceEnabled s = true) (hq : s.count < s.params.q) : InputEffect s .service
      (arm (otherSlot s.active)
        { setSlot s.active (silentFrames s.params.q) s with underrun := satInc32 s.underrun })
  | disabled {i : Input} (hi : i ∈ [.beat, .complete, .service]) : InputEffect s i s
  | reset : InputEffect s .reset (resetBlock s)

theorem busWrite_effect {a : Addr} {n : Nat} {v : Word} {s t : State} (h : busWrite a n v s = .next t) :
    InputEffect s (.busWrite a n v) t := by
  obtain ⟨off, ho, hw⟩ := busWrite_next h
  obtain ⟨rfl, -, -, -⟩ := csrOffset_some ho
  rcases csrWrite_next hw with ⟨c, rfl, hd, hx⟩ | ⟨e, rfl, -, rfl⟩ | ⟨rfl, rfl⟩ | ⟨rfl, rfl⟩ | ⟨rfl, rfl⟩ |
    ⟨h0, -, -, -, rfl⟩
  · obtain ⟨u, e, r0, r1, hc, rfl⟩ := exec_effect hx
    exact .command e r0 r1 (issued_of_offset ho hd) hc
  · exact .illegal (by simp [isCmdWrite, ho])
  · exact .operands v v s.arg1 s.arg2 (by simp [ho])
  · exact .operands v s.arg0 v s.arg2 (by simp [ho])
  · exact .operands v s.arg0 s.arg1 v (by simp [ho])
  · exact .operands v _ _ _ (by simpa [ho] using h0)

theorem service_effect (s : State) : InputEffect s .service (service s) := by
  cases he : serviceEnabled s with
  | false => rw [service_of_not_enabled he]; exact .disabled (by simp)
  | true =>
    rcases Nat.lt_or_ge s.count s.params.q with hq | hq
    · rw [service_underruns he hq]; exact .serviceUnderrun he hq
    · rw [service_refills he hq]; exact .serviceRefill he hq

theorem perform_effect {i : Input} {s t : State} (h : perform i s = .next t) : InputEffect s i t := by
  cases i with
  | busRead a n => obtain ⟨off, -, rfl⟩ := busRead_next h; exact .csrRead a n _
  | busWrite a n v => exact busWrite_effect h
  | beat =>
    cases h
    cases he : beatEnabled s with
    | false => rw [beat_of_not_enabled he]; exact .disabled (by simp)
    | true => rw [beat_of_enabled he]; exact .beat he
  | complete =>
    cases h
    cases he : completeEnabled s with
    | false => rw [complete_of_not_enabled he]; exact .disabled (by simp)
    | true => rw [complete_of_enabled he]; exact .complete he
  | service => cases h; exact service_effect s
  | reset => cases h; exact .reset
  | hostStore a v => cases h; exact .hostStore a v

theorem step_effect {s t : State} (h : step s = .next t) : InputEffect (consumeInput s) (nextInput s) t := by
  obtain ⟨-, hp⟩ := step_next.mp h
  exact perform_effect hp

/-! ### The invariant: updates that keep it -/

/-- The invariant does not speak of the inputs, the claims and the draws. -/
theorem Inv.consumeInput {s : State} (h : Inv s) : Inv (consumeInput s) := by
  unfold Machine.consumeInput
  split
  · exact { h with }
  · exact { h with }

theorem Inv.consumeClaim {s : State} (h : Inv s) : Inv (consumeClaim s) := by
  unfold Machine.consumeClaim
  split
  · exact { h with }
  · exact { h with }

theorem Inv.outcome {s : State} (h : Inv s) (e : ErrCode) (r0 r1 : Word) :
    Inv { s with err := e, result0 := r0, result1 := r1 } := { h with }

theorem Inv.zeroBuffers {s : State} (h : Inv s) : Inv (zeroBuffers s) where
  __ := h
  ring_length := by simp
  slot0_length := by simp
  slot1_length := by simp
  ridx_lt := Nat.zero_lt_of_lt h.ridx_lt
  count_le := Nat.zero_le _
  widx_eq := by simp
  uninit_reset hu := by
    obtain ⟨hirq, -, -, -, hrest⟩ := h.uninit_reset hu
    exact ⟨hirq, rfl, rfl, rfl, hrest⟩

/-- R35, R19 and R34 (b): INIT leaves UNINIT with a halted engine and the divisor it was given. -/
theorem Inv.initCommit {s : State} {d : Divisor} (h : Inv s) (hd : divisor s.params (initRate s) = some d) :
    Inv (initCommit d s) where
  __ := h.zeroBuffers
  playing_iff := by simp
  streaming_armed hst := by simp at hst
  streaming_clock hst := by simp at hst
  halted _ := by simp
  armed_pos ha := by simp at ha
  pending_pos hp := by simp at hp
  uninit_reset hu := by simp at hu
  irq_enabled _ := rfl
  configured _ := hd

/-- R67: a WRITE moves the producer index and the count together, up to the free space. -/
theorem Inv.acceptFrames {s : State} (h : Inv s) (hs : s.state ≠ .uninit) : Inv (acceptFrames s) where
  __ := h
  ring_length := by simp [h.ring_length]
  count_le := by
    have hacc : writeAccepted s ≤ s.params.c - s.count := Nat.min_le_right _ _
    have hle := h.count_le
    simp only [acceptFrames_count, acceptFrames_params]
    omega
  widx_eq := by simp [h.widx_eq, Nat.add_assoc]
  uninit_reset hu := absurd hu hs

/-- R71: draining moves the consumer index and takes the same number from the count. -/
theorem Inv.drain {s : State} (h : Inv s) (n : Nat) (hs : s.state ≠ .uninit) : Inv (drain n s) where
  __ := h
  ridx_lt := Nat.mod_lt _ (Nat.zero_lt_of_lt h.ridx_lt)
  count_le := (Nat.sub_le _ _).trans h.count_le
  widx_eq := by
    have hle := drainCount_le n s
    simp only [drain_widx, drain_ridx, drain_count, drain_params, h.widx_eq, Nat.mod_add_mod]
    congr 1
    omega
  uninit_reset hu := absurd hu hs

theorem Inv.setSlot {s : State} (h : Inv s) (i : SlotId) {frames : List Frame}
    (hf : frames.length = s.params.q) : Inv (setSlot i frames s) := by
  cases i with
  | zero => exact { h with slot0_length := hf }
  | one => exact { h with slot1_length := hf }

theorem padWithSilence_drainFrames_length (n : Nat) (s : State) :
    (padWithSilence n (drainFrames n s)).length = n :=
  padWithSilence_length (by simp [drainCount])

/-- R72, R34 (a): START arms slot 0 from its first frame and starts the clock. -/
theorem Inv.startStreaming {s : State} (h : Inv s) (hs : s.state ≠ .uninit) : Inv (startStreaming s) where
  __ := (h.drain s.params.q hs).setSlot .zero (padWithSilence_drainFrames_length _ s)
  playing_iff := by simp
  streaming_armed _ := by simp
  streaming_clock _ := by simp
  halted hne := absurd (startStreaming_state s) hne
  armed_pos _ := by simp
  pending_pos hp := by simp at hp
  uninit_reset hu := by simp at hu
  irq_enabled _ := h.irq_enabled hs
  configured _ := h.configured hs

/-- R73, R34 (b): STOP's body halts the engine and the clock. -/
theorem Inv.stopBody {s : State} (h : Inv s) (hs : s.state ≠ .uninit) : Inv (stopBody s) where
  __ := h
  playing_iff := by simp
  streaming_armed hst := by simp at hst
  streaming_clock hst := by simp at hst
  halted _ := by simp
  armed_pos ha := by simp at ha
  pending_pos hp := by simp at hp
  uninit_reset hu := by simp at hu
  irq_enabled _ := h.irq_enabled hs
  configured _ := h.configured hs

/-- R34 (a): re-arming ends a pending completion. -/
theorem Inv.arm {s : State} (h : Inv s) (i : SlotId) (hs : s.state = .streaming) : Inv (arm i s) where
  __ := h
  streaming_armed _ := by simp
  halted hne := absurd hs hne
  armed_pos _ := by simp
  pending_pos hp := by simp at hp
  uninit_reset hu := by simp [hs] at hu

theorem Inv.underrun {s : State} (h : Inv s) (x : Word) (hs : s.state ≠ .uninit) :
    Inv { s with underrun := x } where
  __ := h
  uninit_reset hu := absurd hu hs

theorem Inv.streaming_of_armed {s : State} (h : Inv s) (ha : s.armed = true) : s.state = .streaming := by
  by_contra hne
  obtain ⟨harmed, -⟩ := h.halted hne
  simp [harmed] at ha

theorem Inv.beat {s : State} (h : Inv s) (he : beatEnabled s = true) (frames : List Frame) :
    Inv { s with out := frames, xferPos := s.xferPos + 1 } := by
  obtain ⟨⟨ha, -⟩, hlt⟩ : (s.armed = true ∧ s.clkEn = true) ∧ s.xferPos < s.params.q := by
    simpa [beatEnabled] using he
  have hs := h.streaming_of_armed ha
  have hp : s.pending = false := by simpa [ha] using (h.streaming_armed hs).symm
  exact { h with
    halted := fun hne => absurd hs hne
    armed_pos := fun _ => hlt
    pending_pos := fun hpend => by simp [hp] at hpend }

theorem Inv.complete {s : State} (h : Inv s) (he : completeEnabled s = true) :
    Inv { s with armed := false, pending := true } := by
  obtain ⟨ha, hpos⟩ : s.armed = true ∧ s.xferPos = s.params.q := by simpa [completeEnabled] using he
  have hs := h.streaming_of_armed ha
  exact { h with
    streaming_armed := fun _ => rfl
    halted := fun hne => absurd hs hne
    armed_pos := fun hfalse => by simp at hfalse
    pending_pos := fun _ => hpos }

theorem serviceEnabled_streaming {s : State} (he : serviceEnabled s = true) : s.state = .streaming := by
  simp only [serviceEnabled, Bool.and_eq_true, decide_eq_true_eq] at he
  obtain ⟨-, hs⟩ := he
  exact hs

theorem Inv.serviceRefill {s : State} (h : Inv s) (he : serviceEnabled s = true) (hq : s.params.q ≤ s.count) :
    Inv (Machine.arm (otherSlot s.active)
      (Machine.setSlot s.active (drainFrames s.params.q s) (Machine.drain s.params.q s))) := by
  have hs := serviceEnabled_streaming he
  have hlen : (drainFrames s.params.q s).length = s.params.q := by
    rw [drainFrames_length, drainCount_of_le hq]
  exact ((h.drain _ (by simp [hs])).setSlot s.active hlen).arm _ (by simp [hs])

theorem Inv.serviceUnderrun {s : State} (h : Inv s) (he : serviceEnabled s = true) (x : Word) :
    Inv (Machine.arm (otherSlot s.active)
      { Machine.setSlot s.active (silentFrames s.params.q) s with underrun := x }) := by
  have hs := serviceEnabled_streaming he
  exact ((h.setSlot s.active (silentFrames_length _)).underrun x (by simp [hs])).arm _ (by simp [hs])

theorem Inv.hostStore {s : State} (h : Inv s) (a : Addr) (v : Byte) :
    Inv { s with hostMem := s.hostMem.write a.toNat v } :=
  { h with memory := Memory.write_wf h.memory a v }

/-! ### The invariant: power-on and reset -/

theorem PowerOn.inv {s : State} (h : PowerOn s) : Inv s := by
  obtain ⟨hq, hqc, -⟩ := (params_wf_iff _).mp h.params
  rw [h.rest]
  exact
    { params := h.params
      ring_length := h.ring_length
      slot0_length := h.slot0_length
      slot1_length := h.slot1_length
      memory := h.memory
      ridx_lt := Nat.lt_of_lt_of_le hq hqc
      count_le := Nat.zero_le _
      widx_eq := by simp [State.powerOn]
      playing_iff := by simp [State.powerOn]
      streaming_armed := by simp [State.powerOn]
      streaming_clock := by simp [State.powerOn]
      halted := by simp [State.powerOn]
      armed_pos := by simp [State.powerOn]
      pending_pos := by simp [State.powerOn]
      uninit_reset := by simp [State.powerOn]
      irq_enabled := by simp [State.powerOn]
      configured := by simp [State.powerOn] }

/-- Reset leads to a power-on state, but for the frames already delivered to OUT (R36, R110). -/
theorem powerOn_resetBlock {s : State} (h : Inv s) : PowerOn { resetBlock s with out := [] } where
  params := h.params
  ring_length := by simp
  slot0_length := by simp
  slot1_length := by simp
  memory := h.memory
  rest := rfl

theorem Inv.resetBlock {s : State} (h : Inv s) : Inv (resetBlock s) := { (powerOn_resetBlock h).inv with }

/-! ### The invariant is inductive -/

theorem CommandEffect.inv {c : Instr} {s u : State} (hc : CommandEffect c s u) (h : Inv s) : Inv u := by
  cases hc with
  | unchanged => exact h
  | claimRefused => exact h.consumeClaim
  | initCommit _ hdiv =>
    exact h.consumeClaim.initCommit (by simpa only [initRate, consumeClaim_params, consumeClaim_arg0] using hdiv)
  | acceptFrames hstate => exact h.acceptFrames hstate
  | startStreaming hstate => exact h.startStreaming (by rcases hstate with hs | hs <;> simp [hs])
  | stopBody hstate => exact h.stopBody (by simp [hstate])
  | clearStreaming hstate => exact (h.stopBody (by simp [hstate])).zeroBuffers
  | clearHalted => exact h.zeroBuffers

theorem InputEffect.inv {i : Input} {s t : State} (hi : InputEffect s i t) (h : Inv s) : Inv t := by
  cases hi with
  | disabled => exact h
  | command e r0 r1 _ hc => exact (hc.inv h).outcome e r0 r1
  | illegal => exact h.outcome .illegalCmd 0 0
  | csrRead => exact { h with }
  | operands => exact { h with }
  | hostStore a v => exact h.hostStore a v
  | beat he => exact h.beat he _
  | complete he => exact h.complete he
  | serviceRefill he hq => exact h.serviceRefill he hq
  | serviceUnderrun he => exact h.serviceUnderrun he _
  | reset => exact h.resetBlock

/-- Settles O54: taking the input keeps the invariant, and so does everything the input can do. -/
theorem stepKeepsTheInvariant : Obligations.StepKeepsTheInvariant :=
  fun _ _ h hs => (step_effect hs).inv h.consumeInput

theorem powerOn_reset : PowerOn State.reset where
  params := rfl
  ring_length := List.length_replicate
  slot0_length := List.length_replicate
  slot1_length := List.length_replicate
  memory := rfl
  rest := rfl

/-- Settles O53, field by field from the power-on values. -/
theorem powerOnMeetsTheInvariant : Obligations.PowerOnMeetsTheInvariant :=
  ⟨fun _ h => h.inv, powerOn_reset⟩

theorem Reachable.inv {s : State} (h : Reachable s) : Inv s := by
  induction h with
  | powerOn h => exact h.inv
  | step _ hs ih => exact stepKeepsTheInvariant _ _ ih hs

/-! ### The rules of every reachable state -/

/-- Settles O55, from the invariant. -/
theorem reachableStatesMeetTheRules : Obligations.ReachableStatesMeetTheRules := by
  intro s hr
  have h := hr.inv
  refine ⟨h.count_le, h.widx_eq, h.playing_iff, fun hs => ⟨?_, h.streaming_clock hs⟩, h.halted, h.armed_pos,
    h.pending_pos, fun hu => ?_⟩
  · have harmed := h.streaming_armed hs
    cases hp : s.pending with
    | false => exact .inl ⟨by simpa [hp] using harmed, rfl⟩
    | true => exact .inr ⟨by simpa [hp] using harmed, rfl⟩
  · obtain ⟨-, hwidx, hridx, hcount, -⟩ := h.uninit_reset hu
    exact ⟨hwidx, hridx, hcount⟩

/-- Settles O56: UNINIT is a halted state that does not play, and the invariant lists the rest. -/
theorem uninitHoldsResetValues : Obligations.UninitHoldsResetValues := by
  intro s hr hu
  have h := hr.inv
  have hne : s.state ≠ .streaming := by simp [hu]
  have hplaying : s.playing = false := Bool.eq_false_iff.mpr fun hp => hne (h.playing_iff.mp hp)
  obtain ⟨harmed, hpending, hclk, hpos⟩ := h.halted hne
  obtain ⟨hirq, hwidx, hridx, hcount, hactive, hconfig⟩ := h.uninit_reset hu
  obtain ⟨hunder, hover, hrest⟩ := hconfig
  exact ⟨hirq, hplaying, hwidx, hridx, hcount, hactive, harmed, hpos, hpending, hclk, hunder, hover, hrest⟩

/-! ### The collaborators -/

/-- The two parts of an accepted divisor make up the 16.8 value: neither field loses a bit (R86). -/
theorem divisor_value {p : Config.Params} {rate : Nat} {d : Divisor} (h : divisor p rate = some d) :
    d.dint.toNat * 256 + d.dfrac.toNat = divisorFixed p rate := by
  unfold divisor at h
  split at h
  · cases h
  · split at h
    · cases h
    · rename_i hrange
      cases h
      simp only [BitVec.toNat_ofNat]
      omega

theorem Inv.clkEn_iff {s : State} (h : Inv s) : s.clkEn = true ↔ s.state = .streaming := by
  refine ⟨fun hclk => ?_, h.streaming_clock⟩
  by_contra hne
  obtain ⟨-, -, hoff, -⟩ := h.halted hne
  simp [hoff] at hclk

theorem generatorConfig_eq_none_iff (s : State) : generatorConfig s = none ↔ s.state = .uninit := by
  simp [generatorConfig]

theorem generatorConfig_some {s : State} {g : GeneratorConfig} (h : generatorConfig s = some g) :
    s.state ≠ .uninit ∧ g.divisor256 = s.divInt.toNat * 256 + s.divFrac.toNat ∧
      g.pins = s.params.pinAssignment := by
  unfold generatorConfig at h
  split at h
  · cases h
  · cases h; exact ⟨‹_›, rfl, rfl⟩

theorem armedTransfer_eq_some_iff (s : State) (x : Transfer) :
    armedTransfer s = some x ↔
      s.armed = true ∧ x = { buffer := s.active, length := s.params.q, destination := s.params.dest } := by
  unfold armedTransfer
  split
  · rename_i ha
    simp only [ha, Option.some.injEq, true_and]
    exact eq_comm
  · rename_i ha
    simp [ha]

/-- Settles O57: the views read off the clock, the stored divisor and the armed flag, which the invariant ties to the
scheduler state and the stored rate. -/
theorem collaboratorContract : Obligations.CollaboratorContract := by
  intro s hr
  have h := hr.inv
  refine ⟨h.clkEn_iff, generatorConfig_eq_none_iff s, fun g hg => ?_, armedTransfer_eq_some_iff s⟩
  obtain ⟨hs, hdiv, hpins⟩ := generatorConfig_some hg
  have hvalue := divisor_value (h.configured hs)
  simp only at hvalue
  exact ⟨hpins, by rw [hdiv, hvalue]⟩

/-! ### What a step leaves unchanged -/

theorem CommandEffect.frame {c : Instr} {s u : State} (hc : CommandEffect c s u) :
    u.arg0 = s.arg0 ∧ u.arg1 = s.arg1 ∧ u.arg2 = s.arg2 ∧ u.out = s.out ∧ u.hostMem = s.hostMem ∧
      u.params = s.params ∧ u.inputs = s.inputs ∧ u.readData = s.readData := by
  cases hc <;> simp

/-- Settles O44: no effect of a command writes these, and neither do the outcome registers. -/
theorem commandFrame : Obligations.CommandFrame := by
  intro c s t h
  obtain ⟨u, e, r0, r1, hc, rfl⟩ := exec_effect h
  obtain ⟨h0, h1, h2, hout, hmem, hparams, hinputs, hread⟩ := hc.frame
  exact ⟨h0, h1, h2, hout, fun a => congrArg (Memory.read · a) hmem, hparams, hinputs, hread⟩

/-- The scheduler's table for one command (R18). -/
theorem CommandEffect.transition {c : Instr} {s u : State} (hc : CommandEffect c s u) :
    u.state = s.state ∨ (s.state = .uninit ∧ c = .init ∧ u.state = .idle) ∨
      ((s.state = .idle ∨ s.state = .stopped) ∧ c = .start ∧ u.state = .streaming) ∨
      (s.state = .streaming ∧ (c = .stop ∨ c = .clear) ∧ u.state = .stopped) := by
  cases hc with
  | unchanged => exact .inl rfl
  | claimRefused => exact .inl (consumeClaim_state s)
  | initCommit hstate => exact .inr (.inl ⟨hstate, rfl, rfl⟩)
  | acceptFrames => exact .inl rfl
  | startStreaming hstate => exact .inr (.inr (.inl ⟨hstate, rfl, rfl⟩))
  | stopBody hstate => exact .inr (.inr (.inr ⟨hstate, .inl rfl, rfl⟩))
  | clearStreaming hstate => exact .inr (.inr (.inr ⟨hstate, .inr rfl, rfl⟩))
  | clearHalted => exact .inl rfl

theorem InputEffect.transition {i : Input} {s t : State} (hi : InputEffect s i t) :
    t.state = s.state ∨ (s.state = .uninit ∧ issued s.params i = some .init ∧ t.state = .idle) ∨
      ((s.state = .idle ∨ s.state = .stopped) ∧ issued s.params i = some .start ∧ t.state = .streaming) ∨
      (s.state = .streaming ∧ (issued s.params i = some .stop ∨ issued s.params i = some .clear) ∧
        t.state = .stopped) ∨
      (i = .reset ∧ t.state = .uninit) := by
  cases hi with
  | command e r0 r1 hissued hc =>
    rcases hc.transition with hsame | ⟨hs, rfl, ht⟩ | ⟨hs, rfl, ht⟩ | ⟨hs, rfl | rfl, ht⟩
    · exact .inl hsame
    · exact .inr (.inl ⟨hs, hissued, ht⟩)
    · exact .inr (.inr (.inl ⟨hs, hissued, ht⟩))
    · exact .inr (.inr (.inr (.inl ⟨hs, .inl hissued, ht⟩)))
    · exact .inr (.inr (.inr (.inl ⟨hs, .inr hissued, ht⟩)))
  | reset => exact .inr (.inr (.inr (.inr ⟨rfl, rfl⟩)))
  | serviceRefill | serviceUnderrun => exact .inl (by simp)
  | disabled | illegal | csrRead | operands | hostStore | beat | complete => exact .inl rfl

/-- Settles O26, by the effect of the input. -/
theorem schedulerTransitions : Obligations.SchedulerTransitions := by
  intro s t h
  simpa using (step_effect h).transition

/-! ### The counters -/

theorem satInc32_le (x : Word) : x.toNat ≤ (satInc32 x).toNat := by
  have hmin := countersSaturate x
  have hlt := x.isLt
  omega

theorem satInc32_rise {x : Word} (h : x.toNat < (satInc32 x).toNat) : (satInc32 x).toNat = x.toNat + 1 := by
  have hmin := countersSaturate x
  omega

/-- How a command can leave UNDERRUN: as it was, or zeroed by INIT (R30). -/
theorem CommandEffect.underrun_eq {c : Instr} {s u : State} (hc : CommandEffect c s u) :
    u.underrun = s.underrun ∨ (c = .init ∧ u.underrun = 0) := by
  cases hc with
  | initCommit => exact .inr ⟨rfl, rfl⟩
  | _ => exact .inl (by simp)

theorem CommandEffect.overrun_eq {c : Instr} {s u : State} (hc : CommandEffect c s u) :
    u.overrun = s.overrun ∨ (c = .write ∧ u.overrun = satInc32 s.overrun) ∨ (c = .init ∧ u.overrun = 0) := by
  cases hc with
  | initCommit => exact .inr (.inr ⟨rfl, rfl⟩)
  | acceptFrames =>
    rw [acceptFrames_overrun]
    split
    · exact .inr (.inl ⟨rfl, rfl⟩)
    · exact .inl rfl
  | _ => exact .inl (by simp)

theorem InputEffect.underrun_eq {i : Input} {s t : State} (hi : InputEffect s i t) :
    t.underrun = s.underrun ∨
      ((i = .service ∧ s.count < s.params.q) ∧ t.underrun = satInc32 s.underrun) ∨
      ((i = .reset ∨ issued s.params i = some .init) ∧ t.underrun = 0) := by
  cases hi with
  | command e r0 r1 hissued hc =>
    rcases hc.underrun_eq with hsame | ⟨rfl, hzero⟩
    · exact .inl hsame
    · exact .inr (.inr ⟨.inr hissued, hzero⟩)
  | serviceUnderrun _ hq => exact .inr (.inl ⟨⟨rfl, hq⟩, rfl⟩)
  | reset => exact .inr (.inr ⟨.inl rfl, rfl⟩)
  | serviceRefill => exact .inl (by simp)
  | disabled | illegal | csrRead | operands | hostStore | beat | complete => exact .inl rfl

theorem InputEffect.overrun_eq {i : Input} {s t : State} (hi : InputEffect s i t) :
    t.overrun = s.overrun ∨
      (issued s.params i = some .write ∧ t.overrun = satInc32 s.overrun) ∨
      ((i = .reset ∨ issued s.params i = some .init) ∧ t.overrun = 0) := by
  cases hi with
  | command e r0 r1 hissued hc =>
    rcases hc.overrun_eq with hsame | ⟨rfl, hinc⟩ | ⟨rfl, hzero⟩
    · exact .inl hsame
    · exact .inr (.inl ⟨hissued, hinc⟩)
    · exact .inr (.inr ⟨.inr hissued, hzero⟩)
  | reset => exact .inr (.inr ⟨.inl rfl, rfl⟩)
  | serviceRefill | serviceUnderrun => exact .inl (by simp)
  | disabled | illegal | csrRead | operands | hostStore | beat | complete => exact .inl rfl

/-- A counter that keeps its value, is incremented on condition `P`, or is zeroed on condition `Q`, rises only on `P`
and by one, and falls only on `Q` and to zero. -/
theorem counter_discipline {x y : Word} {P Q : Prop} (h : y = x ∨ (P ∧ y = satInc32 x) ∨ (Q ∧ y = 0)) :
    (x.toNat < y.toNat → P ∧ y.toNat = x.toNat + 1) ∧ (y.toNat < x.toNat → Q ∧ y = 0) := by
  rcases h with rfl | ⟨hp, rfl⟩ | ⟨hq, rfl⟩
  · exact ⟨fun hlt => absurd hlt (lt_irrefl _), fun hlt => absurd hlt (lt_irrefl _)⟩
  · exact ⟨fun hlt => ⟨hp, satInc32_rise hlt⟩, fun hlt => absurd hlt (satInc32_le x).not_gt⟩
  · exact ⟨fun hlt => absurd hlt (Nat.not_lt_zero _), fun _ => ⟨hq, rfl⟩⟩

/-- Settles O47, from the three ways each counter can go. -/
theorem counterDiscipline : Obligations.CounterDiscipline := by
  intro s t h
  have hunder := (step_effect h).underrun_eq
  have hover := (step_effect h).overrun_eq
  simp only [consumeInput_underrun, consumeInput_overrun, consumeInput_count, consumeInput_params] at hunder hover
  obtain ⟨hrise, hfall⟩ := counter_discipline hunder
  obtain ⟨hrise', hfall'⟩ := counter_discipline hover
  refine ⟨fun hlt => ?_, hfall, hrise', hfall'⟩
  obtain ⟨⟨hservice, hq⟩, hone⟩ := hrise hlt
  exact ⟨hservice, hq, hone⟩

/-! ### The configuration -/

/-- The stored configuration (R31), as one value. -/
def storedConfig (s : State) : Word × Word × BitVec 16 × BitVec 8 :=
  (s.sampleRate, s.bclkHz, s.divInt, s.divFrac)

theorem CommandEffect.storedConfig {c : Instr} {s u : State} (hc : CommandEffect c s u)
    (hs : s.state ≠ .uninit) : storedConfig u = storedConfig s := by
  cases hc with
  | initCommit hstate => exact absurd hstate hs
  | claimRefused => simp [Safety.storedConfig]
  | _ => rfl

theorem InputEffect.storedConfig {i : Input} {s t : State} (hi : InputEffect s i t) (hs : s.state ≠ .uninit)
    (hr : i ≠ .reset) : storedConfig t = storedConfig s := by
  cases hi with
  | command e r0 r1 _ hc => exact hc.storedConfig hs
  | reset => exact absurd rfl hr
  | serviceRefill | serviceUnderrun => simp [Safety.storedConfig]
  | disabled | illegal | csrRead | operands | hostStore | beat | complete => rfl

/-- Settles O48: the invariant holds the divisor, and past UNINIT only reset writes the configuration. -/
theorem configurationStands : Obligations.ConfigurationStands := by
  refine ⟨fun s hr => hr.inv.configured, fun s t h hs hr => ?_⟩
  have hkept := (step_effect h).storedConfig (by simpa using hs) hr
  simpa [storedConfig] using hkept

/-! ### Who writes what -/

theorem writtenBy_of_issued {p : Config.Params} {i : Input} {c : Instr} {commands : List Instr}
    {others : List Input} (hi : issued p i = some c) (hc : c ∈ commands) : WrittenBy p i commands others :=
  .inl ⟨c, hc, hi⟩

theorem writtenBy_of_mem {p : Config.Params} {i : Input} {commands : List Instr} {others : List Input}
    (hi : i ∈ others) : WrittenBy p i commands others := .inr hi

/-- Every element of the scheduler, the ring, the slots, the engine and the counters that differs between `s` and `t`
has a writer: `W commands others` says that one of R14's commands or one of the other inputs did it. -/
structure Writers (W : List Instr → List Input → Prop) (s t : State) : Prop where
  state : t.state ≠ s.state → W [.init, .start, .stop, .clear] [.reset]
  playing : t.playing ≠ s.playing → W [.init, .start, .stop, .clear] [.reset]
  ring : t.ring ≠ s.ring → W [.write, .init, .clear] [.reset]
  widx : t.widx ≠ s.widx → W [.write, .init, .clear] [.reset]
  ridx : t.ridx ≠ s.ridx → W [.start, .init, .clear] [.service, .reset]
  count : t.count ≠ s.count → W [.write, .start, .init, .clear] [.service, .reset]
  slot0 : t.slot0 ≠ s.slot0 → W [.start, .init, .clear] [.service, .reset]
  slot1 : t.slot1 ≠ s.slot1 → W [.init, .clear] [.service, .reset]
  active : t.active ≠ s.active → W [.start, .init] [.service, .reset]
  armed : t.armed ≠ s.armed → W [.start, .stop, .clear, .init] [.service, .complete, .reset]
  xferPos : t.xferPos ≠ s.xferPos → W [.start, .stop, .clear, .init] [.beat, .service, .reset]
  pending : t.pending ≠ s.pending → W [.stop, .clear, .init] [.complete, .service, .reset]
  clkEn : t.clkEn ≠ s.clkEn → W [.start, .stop, .clear, .init] [.reset]
  irqEn : t.irqEn ≠ s.irqEn → W [.init] [.reset]
  underrun : t.underrun ≠ s.underrun → W [.init] [.service, .reset]
  overrun : t.overrun ≠ s.overrun → W [.write, .init] [.reset]

theorem Writers.refl (W : List Instr → List Input → Prop) (s : State) : Writers W s s := by
  constructor <;> exact fun hne => absurd rfl hne

/-- Taking the input writes none of these. -/
theorem Writers.of_consumeInput {W : List Instr → List Input → Prop} {s t : State}
    (hw : Writers W (consumeInput s) t) : Writers W s t := by
  unfold consumeInput at hw
  split at hw
  · exact { hw with }
  · exact { hw with }

/-- A command writes only what R14 lists it for. START leaves `st.pending` alone because it starts from a halted
engine, where the invariant has it 0. -/
theorem CommandEffect.writers {c : Instr} {s u : State} {W : List Instr → List Input → Prop}
    (hc : CommandEffect c s u) (h : Inv s) (hW : ∀ commands others, c ∈ commands → W commands others) :
    Writers W s u := by
  cases hc with
  | unchanged => exact .refl W s
  | claimRefused => constructor <;> simp
  | initCommit => constructor <;> simp [hW]
  | acceptFrames => constructor <;> simp [hW]
  | startStreaming hstate =>
    have hne : s.state ≠ .streaming := by rcases hstate with hs | hs <;> simp [hs]
    obtain ⟨-, hpending, -, -⟩ := h.halted hne
    constructor <;> simp [hW, hpending]
  | stopBody => constructor <;> simp [hW]
  | clearStreaming => constructor <;> simp [hW]
  | clearHalted => constructor <;> simp [hW]

theorem InputEffect.writers {i : Input} {s t : State} (hi : InputEffect s i t) (h : Inv s) :
    Writers (WrittenBy s.params i) s t := by
  cases hi with
  | command e r0 r1 hissued hc =>
    have hw : Writers (WrittenBy s.params i) s _ := hc.writers h fun _ _ hmem => writtenBy_of_issued hissued hmem
    exact { hw with }
  | beat | complete | serviceRefill | serviceUnderrun | reset => constructor <;> simp [writtenBy_of_mem]
  | disabled | illegal | csrRead | operands | hostStore => exact { Writers.refl (WrittenBy s.params _) s with }

/-- ARG0 to ARG2 are written by the host at an offset other than CMD's, or by reset (R15, R36). -/
theorem InputEffect.operand_writers {i : Input} {s t : State} (hi : InputEffect s i t) :
    (t.arg0 = s.arg0 ∧ t.arg1 = s.arg1 ∧ t.arg2 = s.arg2) ∨
      (∃ a v, i = .busWrite a 4 v ∧ csrOffset s.params a 4 ≠ some 0) ∨ i = .reset := by
  cases hi with
  | command e r0 r1 _ hc =>
    obtain ⟨h0, h1, h2, -⟩ := hc.frame
    exact .inl ⟨h0, h1, h2⟩
  | operands v x y z ha => exact .inr (.inl ⟨_, v, rfl, ha⟩)
  | reset => exact .inr (.inr rfl)
  | serviceRefill | serviceUnderrun => exact .inl (by simp)
  | disabled | illegal | csrRead | hostStore | beat | complete => exact .inl ⟨rfl, rfl, rfl⟩

/-- Host memory is written by its own input alone (R38), the parameters by none. -/
theorem InputEffect.environment {i : Input} {s t : State} (hi : InputEffect s i t) :
    (t.hostMem = s.hostMem ∨ ∃ a v, i = .hostStore a v) ∧ t.params = s.params := by
  cases hi with
  | command e r0 r1 _ hc =>
    obtain ⟨-, -, -, -, hmem, hparams, -⟩ := hc.frame
    exact ⟨.inl hmem, hparams⟩
  | hostStore a v => exact ⟨.inr ⟨a, v, rfl⟩, rfl⟩
  | serviceRefill | serviceUnderrun => exact ⟨.inl (by simp), by simp⟩
  | disabled | illegal | csrRead | operands | beat | complete | reset => exact ⟨.inl rfl, rfl⟩

/-- Settles O50: the writers of the block's elements, of the operands and of what lies outside the block. -/
theorem writersOfTheState : Obligations.WritersOfTheState := by
  intro s t h hs
  have he := step_effect hs
  have hw := (he.writers h.consumeInput).of_consumeInput
  have harg := he.operand_writers
  obtain ⟨hmem, hparams⟩ := he.environment
  rw [consumeInput_params] at hw hparams
  simp only [consumeInput_params, consumeInput_arg0, consumeInput_arg1, consumeInput_arg2] at harg
  rw [consumeInput_hostMem] at hmem
  refine ⟨hw.state, hw.playing, hw.ring, hw.widx, hw.ridx, hw.count, hw.slot0, hw.slot1, hw.active, hw.armed,
    hw.xferPos, hw.pending, hw.clkEn, hw.irqEn, hw.underrun, hw.overrun, fun hne => ?_, hmem.resolve_left, hparams⟩
  refine harg.resolve_left ?_
  rintro ⟨h0, h1, h2⟩
  rcases hne with hne | hne | hne
  · exact hne h0
  · exact hne h1
  · exact hne h2

/-! ### The registers -/

/-- The register map of R21 as a list, for offsets 0x00 to 0x44. -/
def registerMap (s : State) : List (Nat × Word) :=
  [(0x00, 0), (0x04, s.arg0), (0x08, s.arg1), (0x0C, s.arg2), (0x10, s.result0), (0x14, s.result1),
    (0x18, statusWord s), (0x1C, countWord s.count), (0x20, countWord (freeSpace s)), (0x24, countWord s.widx),
    (0x28, countWord s.ridx), (0x2C, s.underrun), (0x30, s.overrun), (0x34, s.sampleRate), (0x38, s.bclkHz),
    (0x3C, clkdivWord s), (0x40, countWord s.params.c), (0x44, countWord s.params.q)]

theorem csrRead_of_mem_registerMap {s : State} : ∀ r ∈ registerMap s,
    r.1 % 4 = 0 ∧ r.1 ≤ 0xFC ∧ csrRead s r.1 = r.2 := by
  simp [registerMap, csrRead]

theorem csrRead_reserved {s : State} {off : Nat} (h : 0x48 ≤ off) : csrRead s off = 0 := by
  obtain ⟨k, rfl⟩ := Nat.exists_eq_add_of_le' h
  rfl

/-- A listed CSR read at an aligned offset of the window only records the register. -/
theorem step_busRead {s : State} {off : Nat} {rest : List Input} (hp : s.params.wf = true)
    (hin : s.inputs = .busRead (s.params.csrBase + BitVec.ofNat 32 off) 4 :: rest) (h4 : off % 4 = 0)
    (hle : off ≤ 0xFC) : step s = .next { s with inputs := rest, readData := csrRead s off } := by
  rw [step_cons hp hin]
  simp only [perform, busRead, csrOffset_at h4 hle]
  rfl

/-- Settles O35, by whether the offset is in the register map or reserved. -/
theorem csrReadReturnsTheRegister : Obligations.CsrReadReturnsTheRegister := by
  intro s off v rest hp hin h
  have hread : off % 4 = 0 ∧ off ≤ 0xFC ∧ csrRead s off = v := by
    rcases h with hmem | ⟨h4, hlo, hle, rfl⟩
    · exact csrRead_of_mem_registerMap (off, v) hmem
    · exact ⟨h4, hle, csrRead_reserved hlo⟩
  obtain ⟨h4, hle, rfl⟩ := hread
  exact step_busRead hp hin h4 hle

/-- Settles O51: the power-on state is written out. -/
theorem powerOnValues : Obligations.PowerOnValues := by
  rintro p s rfl
  simp [State.powerOn]

theorem slotBit_getElem_zero (i : SlotId) : (slotBit i)[0] = decide (i = .one) := by cases i <;> rfl

theorem flagBit_getElem_zero (b : Bool) : (flagBit b)[0] = b := by cases b <;> rfl

/-- STATUS bit by bit (R20): past bit 7 it shows ERR, whose own high bits are 0. -/
theorem statusWord_getLsbD (s : State) (i : Nat) : (statusWord s).getLsbD i =
    if i < 2 then (stateCode s.state).getLsbD i
    else if i = 2 then decide (s.active = .one)
    else if i = 3 then s.playing
    else if i = 4 then s.armed
    else if i = 5 then s.pending
    else if i = 6 then s.clkEn
    else if i = 7 then s.irqEn
    else (errBits s.err).getLsbD (i - 8) := by
  change BitVec.getLsbD (w := 20 + 4 + 1 + 1 + 1 + 1 + 1 + 1 + 2) _ i = _
  simp only [statusWord, BitVec.getLsbD_append]
  match i with
  | 0 | 1 => simp
  | 2 => simp [slotBit_getElem_zero]
  | 3 | 4 | 5 | 6 | 7 => simp [flagBit_getElem_zero]
  | j + 8 =>
    by_cases hj : j < 4
    · simp [hj]
    · simp [hj, BitVec.getLsbD_of_ge _ _ (Nat.le_of_not_lt hj)]

theorem statusWord_state (s : State) : (statusWord s).extractLsb' 0 2 = stateCode s.state := by
  apply BitVec.eq_of_getLsbD_eq
  intro i hi
  simp [statusWord_getLsbD, hi]

theorem statusWord_getLsbD_err (s : State) (j : Nat) :
    (statusWord s).getLsbD (8 + j) = (errBits s.err).getLsbD j := by
  rw [statusWord_getLsbD, Nat.add_sub_cancel_left]
  iterate 7 rw [if_neg (by omega)]

theorem statusWord_err (s : State) : (statusWord s).extractLsb' 8 4 = errBits s.err := by
  apply BitVec.eq_of_getLsbD_eq
  intro i hi
  simp [statusWord_getLsbD_err, hi]

theorem statusWord_high (s : State) : (statusWord s).extractLsb' 12 20 = 0 := by
  apply BitVec.eq_of_getLsbD_eq
  intro i hi
  rw [BitVec.getLsbD_extractLsb', show 12 + i = 8 + (4 + i) by omega, statusWord_getLsbD_err,
    BitVec.getLsbD_of_ge _ _ (Nat.le_add_right 4 i)]
  simp

/-- Settles O36: each field of STATUS is read off its bits, and every field is 0 at power-on. -/
theorem statusLayout : Obligations.StatusLayout := by
  refine ⟨fun s => ⟨?_, statusWord_getLsbD s 2, statusWord_getLsbD s 3, statusWord_getLsbD s 4,
    statusWord_getLsbD s 5, statusWord_getLsbD s 6, statusWord_getLsbD s 7, ?_, statusWord_high s⟩, fun p => ?_⟩
  · rw [statusWord_state]
    cases s.state <;> rfl
  · rw [statusWord_err]
    cases s.err <;> rfl
  · simp [statusWord, State.powerOn, errBits, flagBit, slotBit, stateCode]

end Sys2Proof.Safety

/-! PROOFS. Host memory, the CSR window and OUT (20_memory.md R38, R39, R41, R45). -/

namespace Sys2Proof.Machine

/-! ### Frames of host memory -/

/-- The low half of four bytes joined is the lower two. -/
theorem leftSample_frameOfBytes (b0 b1 b2 b3 : Byte) : leftSample (frameOfBytes b0 b1 b2 b3) = b1 ++ b0 := by
  unfold leftSample frameOfBytes
  rw [BitVec.append_assoc]
  simp only [BitVec.cast_eq]
  exact BitVec.extractLsb'_append_eq_right

theorem rightSample_frameOfBytes (b0 b1 b2 b3 : Byte) : rightSample (frameOfBytes b0 b1 b2 b3) = b3 ++ b2 := by
  unfold rightSample frameOfBytes
  rw [BitVec.append_assoc]
  simp only [BitVec.cast_eq]
  exact BitVec.extractLsb'_append_eq_left

/-- Settles O39: a frame is its four bytes, lowest address first, and each sample is half of it. -/
theorem framesAreLittleEndian : Obligations.FramesAreLittleEndian :=
  fun _ _ => ⟨leftSample_frameOfBytes _ _ _ _, rightSample_frameOfBytes _ _ _ _⟩

/-! ### Accesses outside the window -/

theorem csrOffset_eq_none {p : Config.Params} {addr : Addr} {size : Nat}
    (h : size ≠ 4 ∨ (addr - p.csrBase).toNat % 4 ≠ 0 ∨ 0xFC < (addr - p.csrBase).toNat) :
    csrOffset p addr size = none := by
  refine if_neg ?_
  rintro ⟨hsize, halign, hwindow⟩
  rcases h with h | h | h
  · exact h hsize
  · exact h halign
  · exact hwindow.not_gt h

/-- Settles O38: such an access has no offset in the window, and the bus refuses an access without one. -/
theorem oddCsrAccessIsRefused : Obligations.OddCsrAccessIsRefused := by
  intro s addr size rest hp hodd
  have hnone := csrOffset_eq_none hodd
  refine ⟨fun hin => ?_, fun v hin => ?_⟩
  · rw [step_cons hp hin]
    simp only [perform, busRead, hnone]
  · rw [step_cons hp hin]
    simp only [perform, busWrite, hnone]

/-! ### A store of the environment -/

/-- Settles O40: the canonical form of the invariant gives read after write. -/
theorem hostStoreChangesOneByte : Obligations.HostStoreChangesOneByte := by
  intro s addr v rest h hin
  have hread := Memory.read_write_of_wf h.memory addr.toNat (v := v)
  refine ⟨_, step_cons h.params hin, rfl, ?_, fun b hb => ?_⟩
  · exact (hread addr.toNat).trans (if_pos rfl)
  · exact (hread b).trans (if_neg hb)

/-! ### OUT is never read -/

/-- The state with earlier frames in front of OUT. -/
def prependOut (earlier : List Frame) (s : State) : State := { s with out := earlier ++ s.out }

@[simp] theorem prependOut_state (earlier : List Frame) (s : State) : (prependOut earlier s).state = s.state := rfl
@[simp] theorem prependOut_params (earlier : List Frame) (s : State) : (prependOut earlier s).params = s.params := rfl
@[simp] theorem prependOut_active (earlier : List Frame) (s : State) : (prependOut earlier s).active = s.active := rfl

/-- The outcome with `f` applied to its next state. -/
def onNext (f : State → State) : Host.Outcome State Fault Refusal → Host.Outcome State Fault Refusal
  | .next t => .next (f t)
  | .fault r => .fault r
  | .refused r => .refused r

theorem consumeClaim_prependOut (earlier : List Frame) (s : State) :
    consumeClaim (prependOut earlier s) = prependOut earlier (consumeClaim s) := by
  cases hc : s.claims <;> simp [consumeClaim, prependOut, hc]

theorem consumeInput_prependOut (earlier : List Frame) (s : State) :
    consumeInput (prependOut earlier s) = prependOut earlier (consumeInput s) := by
  cases hi : s.inputs <;> simp [consumeInput, prependOut, hi]

theorem execInit_prependOut (earlier : List Frame) (s : State) :
    execInit (prependOut earlier s) = onNext (prependOut earlier) (execInit s) := by
  have hformat : initFormatOk (prependOut earlier s) = initFormatOk s := rfl
  have hrate : initRate (prependOut earlier s) = initRate s := rfl
  have hclaim : claimAnswer (prependOut earlier s) = claimAnswer s := rfl
  simp only [execInit, prependOut_state, prependOut_params, hformat, hrate, hclaim, consumeClaim_prependOut]
  split
  · rfl
  · split
    · rfl
    · split
      · rfl
      · split <;> rfl

theorem execWrite_prependOut (earlier : List Frame) (s : State) :
    execWrite (prependOut earlier s) = onNext (prependOut earlier) (execWrite s) := by
  have hinvalid : writeInvalid (prependOut earlier s) = writeInvalid s := rfl
  simp only [execWrite, prependOut_state, hinvalid]
  split
  · rfl
  · split <;> rfl

/-- No command reads OUT. -/
theorem exec_prependOut (c : Instr) (earlier : List Frame) (s : State) :
    exec c (prependOut earlier s) = onNext (prependOut earlier) (exec c s) := by
  cases c with
  | init => exact execInit_prependOut earlier s
  | write => exact execWrite_prependOut earlier s
  | start => simp only [exec, execStart, prependOut_state]; split <;> rfl
  | stop => simp only [exec, execStop, prependOut_state]; split <;> rfl
  | clear => simp only [exec, execClear, prependOut_state]; split <;> rfl
  | getFreeSpace | getBufferedCount | getStats => rfl

theorem csrWrite_prependOut (off : Nat) (v : Word) (earlier : List Frame) (s : State) :
    csrWrite off v (prependOut earlier s) = onNext (prependOut earlier) (csrWrite off v s) := by
  unfold csrWrite
  split
  · unfold execute
    split
    · exact exec_prependOut _ earlier s
    · rfl
  all_goals rfl

/-- BEAT appends at the end of OUT, whatever stands before. -/
theorem beat_prependOut (earlier : List Frame) (s : State) :
    beat (prependOut earlier s) = prependOut earlier (beat s) := by
  cases he : beatEnabled s with
  | false => rw [beat_of_not_enabled he, beat_of_not_enabled (s := prependOut earlier s) he]
  | true =>
    rw [beat_of_enabled he, beat_of_enabled (s := prependOut earlier s) he]
    simp only [prependOut, List.append_assoc]
    rfl

theorem complete_prependOut (earlier : List Frame) (s : State) :
    complete (prependOut earlier s) = prependOut earlier (complete s) := by
  cases he : completeEnabled s with
  | false => rw [complete_of_not_enabled he, complete_of_not_enabled (s := prependOut earlier s) he]
  | true => rw [complete_of_enabled he, complete_of_enabled (s := prependOut earlier s) he]; rfl

theorem refill_prependOut (i : SlotId) (earlier : List Frame) (s : State) :
    refill i (prependOut earlier s) = prependOut earlier (refill i s) := by
  unfold refill
  rw [apply_ite (prependOut earlier)]
  cases i <;> rfl

theorem service_prependOut (earlier : List Frame) (s : State) :
    service (prependOut earlier s) = prependOut earlier (service s) := by
  unfold service
  rw [prependOut_active, refill_prependOut, apply_ite (prependOut earlier)]
  rfl

theorem perform_prependOut (i : Input) (earlier : List Frame) (s : State) :
    perform i (prependOut earlier s) = onNext (prependOut earlier) (perform i s) := by
  cases i with
  | busRead a n => simp only [perform, busRead, prependOut_params]; split <;> rfl
  | busWrite a n v =>
    simp only [perform, busWrite, prependOut_params]
    split
    · exact csrWrite_prependOut _ v earlier s
    · rfl
  | beat => exact congrArg Host.Outcome.next (beat_prependOut earlier s)
  | complete => exact congrArg Host.Outcome.next (complete_prependOut earlier s)
  | service => exact congrArg Host.Outcome.next (service_prependOut earlier s)
  | reset | hostStore a v => rfl

theorem step_prependOut (earlier : List Frame) (s : State) :
    step (prependOut earlier s) = onNext (prependOut earlier) (step s) := by
  have hnext : nextInput (prependOut earlier s) = nextInput s := rfl
  simp only [step, stepInput, prependOut_params, hnext, consumeInput_prependOut, perform_prependOut]
  split <;> rfl

end Sys2Proof.Machine

namespace Sys2Proof.Safety

open Sys2Proof.Machine

/-! ### The writer of OUT -/

theorem beat_out (s : State) :
    (beat s).out = if beatEnabled s = true then s.out ++ [slotRead s s.active s.xferPos] else s.out := by
  unfold beat
  split <;> rfl

/-- Every input but BEAT leaves OUT alone. -/
theorem InputEffect.out_eq {i : Input} {s t : State} (hi : InputEffect s i t) (hb : i ≠ .beat) : t.out = s.out := by
  cases hi with
  | command e r0 r1 _ hc =>
    obtain ⟨-, -, -, hout, -⟩ := hc.frame
    exact hout
  | beat => exact absurd rfl hb
  | serviceRefill | serviceUnderrun => simp
  | disabled | illegal | csrRead | operands | hostStore | complete | reset => rfl

theorem perform_out {i : Input} {s t : State} (h : perform i s = .next t) :
    t.out = if i = .beat ∧ beatEnabled s = true then s.out ++ [slotRead s s.active s.xferPos] else s.out := by
  by_cases hb : i = .beat
  · subst hb
    cases h
    simpa using beat_out s
  · rw [(perform_effect h).out_eq hb, if_neg fun hand => hb hand.1]

/-- BEAT reads the armed slot, the clock and the transfer's position, none of which taking the input changes. -/
theorem beatEnabled_consumeInput (s : State) : beatEnabled (consumeInput s) = beatEnabled s := by
  simp [beatEnabled]

theorem slotRead_consumeInput (s : State) (i : SlotId) (k : Nat) :
    slotRead (consumeInput s) i k = slotRead s i k := by
  cases i <;> simp [slotRead]

/-- Settles O49: BEAT's own rule and the frame of every other input; OUT is a blind spot of the step. -/
theorem outIsWrittenByBeatAndNeverRead : Obligations.OutIsWrittenByBeatAndNeverRead := by
  refine ⟨fun s t h => ?_, fun s t earlier h => ?_⟩
  · obtain ⟨-, hp⟩ := step_next.mp h
    have hout := perform_out hp
    simpa only [beatEnabled_consumeInput, slotRead_consumeInput, consumeInput_out, consumeInput_active,
      consumeInput_xferPos] using hout
  · have hcomm := step_prependOut earlier s
    rw [h] at hcomm
    exact hcomm

end Sys2Proof.Safety

/-! PROOFS. The ring as a queue along every step, and the armed slot (20_memory.md R51, R55). -/

namespace Sys2Proof.Safety

open Sys2Proof.Machine

/-! ### What an input accepts, drains and empties -/

/-- A CMD write is none of the events, so a command's share of R51's bookkeeping depends on the command alone. -/
theorem ne_of_issued {p : Config.Params} {i : Input} {c : Instr} (hi : issued p i = some c) :
    i ≠ .reset ∧ i ≠ .service := by
  obtain ⟨a, n, w, rfl, -, -⟩ := issued_cases hi
  exact ⟨by simp, by simp⟩

theorem acceptedBy_of_issued {i : Input} {c : Instr} {s : State} (hi : issued s.params i = some c) :
    acceptedBy i s = if c = .write ∧ s.state ≠ .uninit ∧ writeInvalid s = false then writeFrames s else [] := by
  simp [acceptedBy, hi]

theorem drainedBy_of_issued {i : Input} {c : Instr} {s : State} (hi : issued s.params i = some c) :
    drainedBy i s =
      if c = .start ∧ (s.state = .idle ∨ s.state = .stopped) then drainFrames s.params.q s else [] := by
  obtain ⟨-, hservice⟩ := ne_of_issued hi
  simp [drainedBy, hi, hservice]

theorem emptiesRing_of_issued {i : Input} {c : Instr} {s : State} (hi : issued s.params i = some c) :
    emptiesRing i s = true ↔ (c = .clear ∧ s.state ≠ .uninit) ∨ (c = .init ∧ initSucceeds s = true) := by
  obtain ⟨hreset, -⟩ := ne_of_issued hi
  simp [emptiesRing, hi, hreset]

theorem acceptedBy_of_not_issued {i : Input} {s : State} (hi : issued s.params i = none) : acceptedBy i s = [] := by
  simp [acceptedBy, hi]

theorem drainedBy_of_not_issued {i : Input} {s : State} (hi : issued s.params i = none) :
    drainedBy i s =
      if i = .service ∧ serviceEnabled s = true ∧ s.params.q ≤ s.count then drainFrames s.params.q s else [] := by
  simp [drainedBy, hi]

theorem emptiesRing_of_not_issued {i : Input} {s : State} (hi : issued s.params i = none) :
    emptiesRing i s = true ↔ i = .reset := by
  simp [emptiesRing, hi]

/-! ### The frames in the ring after each state update -/

theorem buffered_of_count_zero {s : State} (h : s.count = 0) : buffered s = [] := by
  rw [← List.length_eq_zero_iff, buffered_length, h]

theorem buffered_consumeInput (s : State) : buffered (consumeInput s) = buffered s :=
  buffered_congr (by simp) (by simp) (by simp) (by simp)

theorem buffered_consumeClaim (s : State) : buffered (consumeClaim s) = buffered s :=
  buffered_congr (by simp) (by simp) (by simp) (by simp)

theorem buffered_beat (s : State) : buffered (beat s) = buffered s := by
  unfold beat
  split <;> rfl

theorem buffered_complete (s : State) : buffered (complete s) = buffered s := by
  unfold complete
  split <;> rfl

/-! ### One step of the queue -/

/-- The ring as a queue between `s` and `t`: emptied, or what input `i` accepts put in at the back and what it drains
taken out at the front. -/
structure QueueStep (i : Input) (s t : State) : Prop where
  emptied : emptiesRing i s = true → buffered t = []
  kept : emptiesRing i s = false → buffered s ++ acceptedBy i s = drainedBy i s ++ buffered t

theorem QueueStep.of_emptied {i : Input} {s t : State} (he : emptiesRing i s = true) (ht : t.count = 0) :
    QueueStep i s t where
  emptied _ := buffered_of_count_zero ht
  kept hf := by simp [he] at hf

theorem QueueStep.of_moved {i : Input} {s t : State} {accepted drained : List Frame} (he : ¬ emptiesRing i s = true)
    (ha : acceptedBy i s = accepted) (hd : drainedBy i s = drained)
    (hkept : buffered s ++ accepted = drained ++ buffered t) : QueueStep i s t where
  emptied ht := absurd ht he
  kept _ := by rw [ha, hd, hkept]

/-- A step that moves no frame. -/
theorem QueueStep.of_same {i : Input} {s t : State} (he : ¬ emptiesRing i s = true) (ha : acceptedBy i s = [])
    (hd : drainedBy i s = []) (hb : buffered t = buffered s) : QueueStep i s t :=
  .of_moved he ha hd (by rw [hb, List.append_nil, List.nil_append])

theorem initSucceeds_iff (s : State) :
    initSucceeds s = true ↔ s.state = .uninit ∧ initFormatOk s = true ∧
      (∃ d, divisor s.params (initRate s) = some d) ∧ claimAnswer s = true := by
  simp [initSucceeds, Option.isSome_iff_exists, and_assoc]

/-- INIT empties the ring exactly where it commits (43_configurator.md R83). -/
theorem execInit_queueStep {i : Input} {s t : State} (hi : issued s.params i = some .init)
    (hx : execInit s = .next t) : QueueStep i s t := by
  have hempties : emptiesRing i s = true ↔ initSucceeds s = true := by simp [emptiesRing_of_issued hi]
  rw [initSucceeds_iff] at hempties
  have hsame : ¬ emptiesRing i s = true → buffered t = buffered s → QueueStep i s t := fun he =>
    .of_same he (by simp [acceptedBy_of_issued hi]) (by simp [drainedBy_of_issued hi])
  rcases execInit_next hx with ⟨hs, rfl⟩ | ⟨-, hformat, rfl⟩ | ⟨-, -, hrate, rfl⟩ | ⟨d, -, -, -, hclaim, rfl⟩ |
    ⟨d, hs, hformat, hrate, hclaim, rfl⟩
  · exact hsame (by simp [hempties, hs]) rfl
  · exact hsame (by simp [hempties, hformat]) rfl
  · exact hsame (by simp [hempties, hrate]) rfl
  · exact hsame (by simp [hempties, hclaim]) (buffered_consumeClaim s)
  · exact .of_emptied (hempties.mpr ⟨hs, hformat, ⟨d, hrate⟩, hclaim⟩) rfl

/-- WRITE appends what it accepts (41_ring_buffer.md R67, R68): the ring arithmetic is `buffered_acceptFrames`. -/
theorem execWrite_queueStep {i : Input} {s t : State} (h : Inv s) (hi : issued s.params i = some .write)
    (hx : execWrite s = .next t) : QueueStep i s t := by
  have hempties : ¬ emptiesRing i s = true := by simp [emptiesRing_of_issued hi]
  have hdrained : drainedBy i s = [] := by simp [drainedBy_of_issued hi]
  have haccepted := acceptedBy_of_issued hi
  rcases execWrite_next hx with ⟨hs, rfl⟩ | ⟨-, hinvalid, rfl⟩ | ⟨hs, hvalid, rfl⟩
  · exact .of_same hempties (by simp [haccepted, hs]) hdrained rfl
  · exact .of_same hempties (by simp [haccepted, hinvalid]) hdrained rfl
  · exact .of_moved hempties (haccepted.trans (if_pos ⟨rfl, hs, hvalid⟩)) hdrained
      (buffered_acceptFrames h.ring_length h.count_le h.widx_eq).symm

/-- START drains up to a quantum from the front (42_scheduler.md R72). -/
theorem execStart_queueStep {i : Input} {s t : State} (hi : issued s.params i = some .start)
    (hx : execStart s = .next t) : QueueStep i s t := by
  have hempties : ¬ emptiesRing i s = true := by simp [emptiesRing_of_issued hi]
  have haccepted : acceptedBy i s = [] := by simp [acceptedBy_of_issued hi]
  have hdrained := drainedBy_of_issued hi
  rcases execStart_next hx with ⟨hs, rfl⟩ | ⟨hs, rfl⟩ | ⟨hs, rfl⟩
  · exact .of_same hempties haccepted (by simp [hdrained, hs]) rfl
  · exact .of_same hempties haccepted (by simp [hdrained, hs]) rfl
  · refine .of_moved hempties haccepted (hdrained.trans (if_pos ⟨rfl, hs⟩)) ?_
    rw [List.append_nil]
    exact (drainFrames_append_buffered s.params.q s).symm

/-- CLEAR empties the ring but in UNINIT (42_scheduler.md R74). -/
theorem execClear_queueStep {i : Input} {s t : State} (hi : issued s.params i = some .clear)
    (hx : execClear s = .next t) : QueueStep i s t := by
  have hempties : emptiesRing i s = true ↔ s.state ≠ .uninit := by simp [emptiesRing_of_issued hi]
  rcases execClear_next hx with ⟨hs, rfl⟩ | ⟨hs, rfl⟩ | ⟨hs, rfl⟩
  · exact .of_same (by simp [hempties, hs]) (by simp [acceptedBy_of_issued hi]) (by simp [drainedBy_of_issued hi]) rfl
  · exact .of_emptied (hempties.mpr (by simp [hs])) rfl
  · exact .of_emptied (hempties.mpr (by rcases hs with hs | hs <;> simp [hs])) rfl

theorem execStop_buffered {s t : State} (hx : execStop s = .next t) : buffered t = buffered s := by
  rcases execStop_next hx with ⟨-, rfl⟩ | ⟨-, rfl⟩ | ⟨-, rfl⟩ <;> rfl

theorem exec_queueStep {i : Input} {c : Instr} {s t : State} (h : Inv s) (hi : issued s.params i = some c)
    (hx : exec c s = .next t) : QueueStep i s t := by
  have hsame : c ∈ [.stop, .getFreeSpace, .getBufferedCount, .getStats] → buffered t = buffered s →
      QueueStep i s t := fun hc => by
    refine .of_same ?_ ?_ ?_
    · rw [emptiesRing_of_issued hi]; rintro (⟨rfl, -⟩ | ⟨rfl, -⟩) <;> simp at hc
    · rw [acceptedBy_of_issued hi, if_neg]; rintro ⟨rfl, -⟩; simp at hc
    · rw [drainedBy_of_issued hi, if_neg]; rintro ⟨rfl, -⟩; simp at hc
  cases c with
  | init => exact execInit_queueStep hi hx
  | write => exact execWrite_queueStep h hi hx
  | start => exact execStart_queueStep hi hx
  | stop => exact hsame (by simp) (execStop_buffered hx)
  | clear => exact execClear_queueStep hi hx
  | getFreeSpace | getBufferedCount | getStats => cases hx; exact hsame (by simp) rfl

/-- SERVICE drains a quantum from the front, where the ring holds one (42_scheduler.md R77). -/
theorem service_queueStep (s : State) : QueueStep .service s (service s) := by
  have hissued : issued s.params .service = none := rfl
  have hempties : ¬ emptiesRing .service s = true := by simp [emptiesRing_of_not_issued hissued]
  have haccepted := acceptedBy_of_not_issued hissued
  have hdrained := drainedBy_of_not_issued hissued
  cases he : serviceEnabled s with
  | false =>
    rw [service_of_not_enabled he]
    exact .of_same hempties haccepted (by simp [hdrained, he]) rfl
  | true =>
    rcases Nat.lt_or_ge s.count s.params.q with hq | hq
    · rw [service_underruns he hq]
      exact .of_same hempties haccepted (by simp [hdrained, hq])
        (buffered_congr (by simp) (by simp) (by simp) (by simp))
    · rw [service_refills he hq]
      refine .of_moved hempties haccepted (hdrained.trans (if_pos ⟨rfl, he, hq⟩)) ?_
      rw [List.append_nil, ← drainFrames_append_buffered s.params.q s]
      exact congrArg _ (buffered_congr (by simp) (by simp) (by simp) (by simp)).symm

theorem perform_queueStep {i : Input} {s t : State} (h : Inv s) (hp : perform i s = .next t) : QueueStep i s t := by
  have hsame : issued s.params i = none → i ≠ .service → i ≠ .reset → buffered t = buffered s →
      QueueStep i s t := fun hi hservice hreset =>
    .of_same (by simp [emptiesRing_of_not_issued hi, hreset]) (acceptedBy_of_not_issued hi)
      (by simp [drainedBy_of_not_issued hi, hservice])
  rcases perform_cases hp with ⟨c, hi, hx⟩ | ⟨hi, hcmd, rfl⟩ | ⟨hi, -, hreset, -, -, hservice, r, x, y, z, m, rfl⟩ |
    ⟨rfl, rfl⟩ | ⟨rfl, rfl⟩ | ⟨rfl, rfl⟩ | ⟨rfl, rfl⟩
  · exact exec_queueStep h hi hx
  · exact hsame hi (by rintro rfl; simp [isCmdWrite] at hcmd) (by rintro rfl; simp [isCmdWrite] at hcmd) rfl
  · exact hsame hi hservice hreset rfl
  · exact hsame rfl (by simp) (by simp) (buffered_beat s)
  · exact hsame rfl (by simp) (by simp) (buffered_complete s)
  · exact service_queueStep s
  · exact .of_emptied (by simp [emptiesRing]) rfl

/-- Settles O15: what was drained stays in front, and the input moves frames of the queue behind it. -/
theorem stepKeepsTheRingAFifo : Obligations.StepKeepsTheRingAFifo := by
  intro s t accepted drained h hfifo hs
  obtain ⟨-, hp⟩ := step_next.mp hs
  have hq := perform_queueStep h.consumeInput hp
  refine ⟨hq.emptied, fun he => ?_⟩
  have hkept := hq.kept he
  rw [buffered_consumeInput] at hkept
  rw [hfifo, List.append_assoc, hkept, List.append_assoc]

/-! ### Runs from power-on -/

theorem PowerOn.count_eq_zero {s : State} (h : PowerOn s) : s.count = 0 := by
  rw [h.rest]
  rfl

theorem History.inv {s : State} {accepted drained : List Frame} (h : History s accepted drained) : Inv s := by
  induction h with
  | powerOn h => exact h.inv
  | emptied _ hs _ ih | step _ hs _ ih => exact stepKeepsTheInvariant _ _ ih hs

/-- Settles O14, by induction on the run: a run begins with an empty ring, and O15 is its step. -/
theorem ringIsAFifo : Obligations.RingIsAFifo := by
  intro s accepted drained h
  change accepted = drained ++ buffered s
  induction h with
  | powerOn h => exact (buffered_of_count_zero h.count_eq_zero).symm
  | emptied h hs he ih =>
    obtain ⟨hempty, -⟩ := stepKeepsTheRingAFifo _ _ _ _ h.inv ih hs
    exact (hempty he).symm
  | step h hs he ih =>
    obtain ⟨-, hkept⟩ := stepKeepsTheRingAFifo _ _ _ _ h.inv ih hs
    exact hkept he

/-! ### The armed slot -/

/-- R34 (a): a transfer is armed or its completion is pending, never both. -/
theorem Inv.not_pending_of_armed {s : State} (h : Inv s) (ha : s.armed = true) : s.pending = false := by
  simpa [ha] using (h.streaming_armed (h.streaming_of_armed ha)).symm

/-- The slot the engine reads, and its frames. -/
def activeSlot (s : State) : SlotId × List Frame := (s.active, slotFrames s s.active)

/-- A command that writes a slot either meets a halted engine or halts it. -/
theorem CommandEffect.activeSlot_eq {c : Instr} {s u : State} (hc : CommandEffect c s u) (h : Inv s)
    (ha : s.armed = true) (hu : u.armed = true) : activeSlot u = activeSlot s := by
  have hstreaming := h.streaming_of_armed ha
  cases hc with
  | unchanged | acceptFrames => rfl
  | claimRefused => cases hactive : s.active <;> simp [activeSlot, hactive]
  | initCommit | stopBody | clearStreaming => simp at hu
  | startStreaming hstate | clearHalted hstate => simp [hstreaming] at hstate

/-- COMPLETE disarms, and SERVICE waits for it (R34 (a)): no event writes a slot that stays armed. -/
theorem InputEffect.activeSlot_eq {i : Input} {s t : State} (hi : InputEffect s i t) (h : Inv s)
    (ha : s.armed = true) (ht : t.armed = true) : activeSlot t = activeSlot s := by
  cases hi with
  | command e r0 r1 _ hc => exact hc.activeSlot_eq h ha ht
  | disabled | illegal | csrRead | operands | hostStore | beat => rfl
  | complete | reset => simp at ht
  | serviceRefill he | serviceUnderrun he =>
    simp [serviceEnabled, h.not_pending_of_armed ha] at he

theorem activeSlot_consumeInput (s : State) : activeSlot (consumeInput s) = activeSlot s := by
  cases hactive : s.active <;> simp [activeSlot, hactive]

/-- Settles O25, by the effect of the input. -/
theorem armedSlotIsNotWritten : Obligations.ArmedSlotIsNotWritten := by
  intro s t h ha hs ht
  have hslot := (step_effect hs).activeSlot_eq h.consumeInput (by simpa using ha) ht
  rw [activeSlot_consumeInput] at hslot
  exact Prod.mk.inj hslot

end Sys2Proof.Safety

/-! PROOFS. Liveness of the transfer engine under fairness (20_memory.md R48). -/

namespace Sys2Proof.Safety

open Sys2Proof.Machine

/-! ### The engine's next event -/

/-- The event the engine of a streaming block waits for: BEAT while the slot has frames left, COMPLETE at its end,
SERVICE once the completion is signalled. -/
def nextEvent (s : State) : Input :=
  if s.pending then .service else if s.xferPos < s.params.q then .beat else .complete

/-- What the engine's cycle turns on. -/
def engineView (s : State) : Config.Params × SchedState × Bool × Nat × List Frame :=
  (s.params, s.state, s.pending, s.xferPos, s.out)

theorem engineView_eq_iff {s t : State} :
    engineView t = engineView s ↔ t.params = s.params ∧ t.state = s.state ∧ t.pending = s.pending ∧
      t.xferPos = s.xferPos ∧ t.out = s.out := by
  simp [engineView]

theorem nextEvent_congr {s t : State} (hv : engineView t = engineView s) : nextEvent t = nextEvent s := by
  obtain ⟨hparams, -, hpending, hpos, -⟩ := engineView_eq_iff.mp hv
  simp [nextEvent, hparams, hpending, hpos]

theorem nextEvent_beat {s : State} (h : Inv s) (he : beatEnabled s = true) : nextEvent s = .beat := by
  obtain ⟨⟨ha, -⟩, hlt⟩ : (s.armed = true ∧ s.clkEn = true) ∧ s.xferPos < s.params.q := by
    simpa [beatEnabled] using he
  simp [nextEvent, h.not_pending_of_armed ha, hlt]

theorem nextEvent_complete {s : State} (h : Inv s) (he : completeEnabled s = true) : nextEvent s = .complete := by
  obtain ⟨ha, hpos⟩ : s.armed = true ∧ s.xferPos = s.params.q := by simpa [completeEnabled] using he
  simp [nextEvent, h.not_pending_of_armed ha, hpos]

theorem nextEvent_service {s : State} (he : serviceEnabled s = true) : nextEvent s = .service := by
  obtain ⟨⟨hp, -⟩, -⟩ : (s.pending = true ∧ s.irqEn = true) ∧ s.state = .streaming := by
    simpa [serviceEnabled] using he
  simp [nextEvent, hp]

/-- In a streaming block the next event is enabled (R34, R75 to R77): the engine never stalls. -/
theorem nextEvent_enabled {s : State} (h : Inv s) (hs : s.state = .streaming) :
    (nextEvent s = .beat ∧ s.pending = false ∧ beatEnabled s = true) ∨
    (nextEvent s = .complete ∧ s.pending = false ∧ s.xferPos = s.params.q ∧ completeEnabled s = true) ∨
    (nextEvent s = .service ∧ s.pending = true ∧ s.xferPos = s.params.q ∧ serviceEnabled s = true) := by
  have harmed := h.streaming_armed hs
  have hclk := h.streaming_clock hs
  cases hp : s.pending with
  | true =>
    have hirq := h.irq_enabled (by simp [hs])
    exact .inr (.inr ⟨by simp [nextEvent, hp], rfl, h.pending_pos hp, by simp [serviceEnabled, hp, hirq, hs]⟩)
  | false =>
    have ha : s.armed = true := by simp [harmed, hp]
    rcases Nat.lt_or_ge s.xferPos s.params.q with hlt | hge
    · exact .inl ⟨by simp [nextEvent, hp, hlt], rfl, by simp [beatEnabled, ha, hclk, hlt]⟩
    · have hpos : s.xferPos = s.params.q := le_antisymm (h.armed_pos ha) hge
      exact .inr (.inl ⟨by simp [nextEvent, hp, hpos], rfl, hpos, by simp [completeEnabled, ha, hpos]⟩)

/-! ### Progress -/

/-- The number of events of the engine's cycle since the transfer began: `Q` BEATs, then COMPLETE; SERVICE, the last of
the `Q + 2`, begins the next transfer. -/
def phase (s : State) : Nat := s.xferPos + if s.pending then 1 else 0

/-- From `s` the block has streamed on to `t` through at least `n` events of the engine. With `c` SERVICEs between them,
the position in the cycle counts the events and the position in the slot the frames: a cycle has `Q + 2` events and
delivers `Q` frames. -/
structure Advances (n : Nat) (s t : State) : Prop where
  inv : Inv t
  streaming : t.state = .streaming
  params : t.params = s.params
  progress : ∃ c, t.out.length + s.xferPos = s.out.length + c * s.params.q + t.xferPos ∧
    n + phase s ≤ c * (s.params.q + 2) + phase t

theorem Advances.of_engineView {s t : State} (h : Inv t) (hs : s.state = .streaming)
    (hv : engineView t = engineView s) : Advances 0 s t := by
  obtain ⟨hparams, hstate, hpending, hpos, hout⟩ := engineView_eq_iff.mp hv
  exact ⟨h, hstate.trans hs, hparams, 0, by simp [hout, hpos], by simp [phase, hpending, hpos]⟩

theorem Advances.trans {m n : Nat} {s t u : State} (hst : Advances m s t) (htu : Advances n t u) :
    Advances (m + n) s u := by
  obtain ⟨c, hout, hphase⟩ := hst.progress
  obtain ⟨d, hout', hphase'⟩ := htu.progress
  rw [hst.params] at hout' hphase'
  refine ⟨htu.inv, htu.streaming, htu.params.trans hst.params, c + d, ?_, ?_⟩
  all_goals
    rw [Nat.add_mul]
    omega

/-- R34 (c), (d): a transfer stays within its quantum, and a signalled one is at its end. -/
theorem phase_cases {s : State} (h : Inv s) (hs : s.state = .streaming) :
    s.xferPos ≤ s.params.q ∧ (phase s = s.xferPos ∨ (phase s = s.params.q + 1 ∧ s.xferPos = s.params.q)) := by
  cases hp : s.pending with
  | false => exact ⟨h.armed_pos (by simp [h.streaming_armed hs, hp]), .inl (by simp [phase, hp])⟩
  | true =>
    have hpos := h.pending_pos hp
    exact ⟨hpos.le, .inr ⟨by simp [phase, hp, hpos], hpos⟩⟩

/-- `k` cycles' worth of events deliver `k` quanta, wherever in the cycle they begin: fewer than `k` SERVICEs leave room
for fewer events, and after `k` of them the position has come round to where it was. -/
theorem Advances.out_length {k : Nat} {s t : State} (ha : Advances (k * (s.params.q + 2)) s t) (h : Inv s)
    (hs : s.state = .streaming) : s.out.length + k * s.params.q ≤ t.out.length := by
  obtain ⟨c, hout, hevents⟩ := ha.progress
  have hstart := phase_cases h hs
  have hend := phase_cases ha.inv ha.streaming
  rw [ha.params] at hend
  rcases Nat.lt_or_ge c k with hlt | hge
  · obtain ⟨d, rfl⟩ := Nat.exists_eq_add_of_lt hlt
    have hsplit : (c + d + 1) * (s.params.q + 2) =
        c * (s.params.q + 2) + d * (s.params.q + 2) + (s.params.q + 2) := by ring
    omega
  · obtain ⟨d, rfl⟩ := Nat.exists_eq_add_of_le hge
    cases d with
    | zero =>
      simp only [Nat.add_zero] at hout hevents
      omega
    | succ d =>
      have hsplit : (k + (d + 1)) * s.params.q = k * s.params.q + d * s.params.q + s.params.q := by ring
      omega

/-! ### What one input does to the cycle -/

/-- A command other than STOP and CLEAR leaves a streaming engine alone. -/
theorem CommandEffect.engineView_eq {c : Instr} {s u : State} (hc : CommandEffect c s u)
    (hs : s.state = .streaming) (hstop : c ≠ .stop) (hclear : c ≠ .clear) : engineView u = engineView s := by
  cases hc with
  | unchanged | acceptFrames => rfl
  | claimRefused => simp [engineView]
  | initCommit hstate | startStreaming hstate => simp [hs] at hstate
  | stopBody => exact absurd rfl hstop
  | clearStreaming | clearHalted => exact absurd rfl hclear

/-- So does every input that is not the engine's next event. -/
theorem InputEffect.engineView_eq {i : Input} {s t : State} (hi : InputEffect s i t) (h : Inv s)
    (hs : s.state = .streaming) (hk : keepsStreaming s.params i) (hne : i ≠ nextEvent s) :
    engineView t = engineView s := by
  obtain ⟨-, hreset, hstop, hclear⟩ := hk
  cases hi with
  | command e r0 r1 hissued hc =>
    exact hc.engineView_eq hs (by rintro rfl; exact hstop hissued) (by rintro rfl; exact hclear hissued)
  | disabled | illegal | csrRead | operands | hostStore => rfl
  | beat he => exact absurd (nextEvent_beat h he).symm hne
  | complete he => exact absurd (nextEvent_complete h he).symm hne
  | serviceRefill he | serviceUnderrun he => exact absurd (nextEvent_service he).symm hne
  | reset => exact absurd rfl hreset

/-- The engine's next event is one event of the cycle. -/
theorem perform_nextEvent {s t : State} (h : Inv s) (hs : s.state = .streaming)
    (hp : perform (nextEvent s) s = .next t) : Advances 1 s t := by
  have hinv := (perform_effect hp).inv h
  rcases nextEvent_enabled h hs with ⟨hevent, hpending, he⟩ | ⟨hevent, hpending, hpos, he⟩ |
    ⟨hevent, hpending, hpos, he⟩
  · rw [hevent, perform_beat, beat_of_enabled he] at hp
    cases hp
    exact ⟨hinv, hs, rfl, 0, by simp; omega, by simp [phase, hpending]; omega⟩
  · rw [hevent, perform_complete, complete_of_enabled he] at hp
    cases hp
    exact ⟨hinv, hs, rfl, 0, by simp, by simp [phase, hpending]; omega⟩
  · rw [hevent, perform_service] at hp
    cases hp
    rcases Nat.lt_or_ge s.count s.params.q with hq | hq
    · rw [service_underruns he hq] at hinv ⊢
      exact ⟨hinv, by simp [hs], by simp, 1, by simp [hpos], by simp [phase, hpending, hpos]; omega⟩
    · rw [service_refills he hq] at hinv ⊢
      exact ⟨hinv, by simp [hs], by simp, 1, by simp [hpos], by simp [phase, hpending, hpos]; omega⟩

theorem perform_of_admitted {i : Input} {s : State} (ha : admitted s.params i = true) :
    ∃ t, perform i s = .next t := by
  cases i with
  | busRead a n =>
    obtain ⟨off, ho⟩ := Option.isSome_iff_exists.mp ha
    simp only [perform, busRead, ho]
    exact ⟨_, rfl⟩
  | busWrite a n v =>
    obtain ⟨off, ho⟩ := Option.isSome_iff_exists.mp ha
    simp only [perform, busWrite, ho]
    exact csrWrite_answers off v s
  | beat | complete | service | reset | hostStore a v => exact ⟨_, rfl⟩

theorem InputEffect.inputs_eq {i : Input} {s t : State} (hi : InputEffect s i t) : t.inputs = s.inputs := by
  cases hi with
  | command e r0 r1 _ hc =>
    obtain ⟨-, -, -, -, -, -, hinputs, -⟩ := hc.frame
    exact hinputs
  | serviceRefill | serviceUnderrun => simp
  | disabled | illegal | csrRead | operands | hostStore | beat | complete | reset => rfl

/-! ### Stretches of inputs -/

theorem Inv.setInputs {s : State} (h : Inv s) (rest : List Input) : Inv { s with inputs := rest } := { h with }

/-- Progress does not speak of the inputs to come. -/
theorem Advances.of_setInputs {n : Nat} {s t : State} {rest : List Input}
    (ha : Advances n { s with inputs := rest } t) : Advances n s t :=
  ⟨ha.inv, ha.streaming, ha.params, ha.progress⟩

theorem Advances.mono {m n : Nat} {s t : State} (ha : Advances n s t) (hle : m ≤ n) : Advances m s t := by
  obtain ⟨c, hout, hevents⟩ := ha.progress
  exact ⟨ha.inv, ha.streaming, ha.params, c, hout, by omega⟩

/-- One listed input: the engine's next event advances the cycle, and any other leaves that event the next. -/
theorem step_keepsStreaming {s : State} {i : Input} {rest : List Input} (h : Inv s) (hs : s.state = .streaming)
    (hin : s.inputs = i :: rest) (hk : keepsStreaming s.params i) :
    ∃ t n, step s = .next t ∧ t.inputs = rest ∧ Advances n s t ∧
      (1 ≤ n ∨ (i ≠ nextEvent s ∧ nextEvent t = nextEvent s)) := by
  have h' := h.setInputs rest
  obtain ⟨t, hp⟩ := perform_of_admitted (s := { s with inputs := rest }) hk.1
  have heffect := perform_effect hp
  have hstep : step s = .next t := (step_cons h.params hin).trans hp
  by_cases hi : i = nextEvent s
  · subst hi
    exact ⟨t, 1, hstep, heffect.inputs_eq, (perform_nextEvent h' hs hp).of_setInputs, .inl le_rfl⟩
  · have hv := heffect.engineView_eq h' hs hk hi
    exact ⟨t, 0, hstep, heffect.inputs_eq, (Advances.of_engineView (heffect.inv h') hs hv).of_setInputs,
      .inr ⟨hi, nextEvent_congr hv⟩⟩

/-- A stretch that offers the engine's next event somewhere advances the cycle: until offered, it stays the next. -/
theorem runs_stretch {l rest : List Input} {s : State} (h : Inv s) (hs : s.state = .streaming)
    (hin : s.inputs = l ++ rest) (hk : ∀ i ∈ l, keepsStreaming s.params i) :
    ∃ t n, runs l.length s = .next t ∧ t.inputs = rest ∧ Advances n s t ∧ (nextEvent s ∈ l → 1 ≤ n) := by
  induction l generalizing s with
  | nil => exact ⟨s, 0, rfl, hin, .of_engineView h hs rfl, by simp⟩
  | cons i l ih =>
    obtain ⟨u, m, hstep, huin, hu, hcycle⟩ := step_keepsStreaming h hs hin (hk i (by simp))
    have hk' : ∀ j ∈ l, keepsStreaming u.params j := fun j hj => hu.params ▸ hk j (by simp [hj])
    obtain ⟨t, n, hruns, htin, ht, hmem⟩ := ih hu.inv hu.streaming huin hk'
    rw [List.length_cons, runs_succ hstep]
    refine ⟨t, m + n, hruns, htin, hu.trans ht, fun hmem' => ?_⟩
    rcases hcycle with hm | ⟨hne, hevent⟩
    · omega
    · have hrest : nextEvent s ∈ l := (List.mem_cons.mp hmem').resolve_left fun heq => hne heq.symm
      have hn := hmem (hevent ▸ hrest)
      omega

theorem nextEvent_mem_of_fairRound {r : List Input} (hr : fairRound r) (s : State) : nextEvent s ∈ r := by
  obtain ⟨hbeat, hcomplete, hservice⟩ := hr
  unfold nextEvent
  split
  · exact hservice
  · split
    · exact hbeat
    · exact hcomplete

/-- Every fair stretch advances the cycle by at least one event. -/
theorem runs_fairRounds {rounds : List (List Input)} {rest : List Input} {s : State} (h : Inv s)
    (hs : s.state = .streaming) (hin : s.inputs = rounds.flatten ++ rest) (hfair : ∀ r ∈ rounds, fairRound r)
    (hk : ∀ i ∈ rounds.flatten, keepsStreaming s.params i) :
    ∃ t, runs rounds.flatten.length s = .next t ∧ Advances rounds.length s t := by
  induction rounds generalizing s with
  | nil => exact ⟨s, rfl, .of_engineView h hs rfl⟩
  | cons r rounds ih =>
    simp only [List.flatten_cons, List.append_assoc, List.mem_append] at hin hk
    obtain ⟨u, n, hruns, huin, hu, hmem⟩ := runs_stretch h hs hin fun i hi => hk i (.inl hi)
    have hone := hmem (nextEvent_mem_of_fairRound (hfair r (by simp)) s)
    obtain ⟨t, hruns', ht⟩ := ih hu.inv hu.streaming huin (fun r' hr' => hfair r' (by simp [hr']))
      fun i hi => hu.params ▸ hk i (.inr hi)
    rw [List.flatten_cons, List.length_append, runs_add hruns]
    exact ⟨t, hruns', (hu.trans ht).mono (by rw [List.length_cons]; omega)⟩

/-- Settles O31: a fair stretch is worth one event, and `k` cycles of events are worth `k` quanta. -/
theorem fairStretchesKeepEmitting : Obligations.FairStretchesKeepEmitting := by
  intro s rounds rest k h hs hin hfair hk hle
  obtain ⟨t, hruns, ht⟩ := runs_fairRounds h hs hin hfair hk
  exact ⟨t, hruns, ht.streaming, (ht.mono hle).out_length h hs⟩

end Sys2Proof.Safety

/-! PROOFS. Command words (30_encoding.md R57 to R63). -/

namespace Sys2Proof

/-! ### The opcode map (R59) -/

theorem decodeOpc_reserved {n : Nat} (h : n = 0 ∨ 9 ≤ n) : decodeOpc n = .error .reservedOpcode := by
  rcases h with rfl | h
  · rfl
  · obtain ⟨k, rfl⟩ := Nat.exists_eq_add_of_le' h
    rfl

/-- Each opcode of the map is the opcode of its command: no command has two. -/
theorem eq_opcOf_of_decodeOpc {opc : BitVec 4} {i : Instr} (h : decodeOpc opc.toNat = .ok i) : opc = opcOf i := by
  apply BitVec.eq_of_toNat_eq
  unfold decodeOpc at h
  split at h <;> cases h <;> assumption

theorem exists_decodeOpc_iff (n : Nat) : (∃ i, decodeOpc n = .ok i) ↔ 1 ≤ n ∧ n ≤ 8 := by
  constructor
  · rintro ⟨i, hi⟩
    by_contra hn
    rw [decodeOpc_reserved (by omega)] at hi
    cases hi
  · rintro ⟨hlo, hhi⟩
    interval_cases n <;> exact ⟨_, rfl⟩

/-! ### The fields of a word (R58) -/

theorem rsvdField_append_opcField (w : Word) : rsvdField w ++ opcField w = w :=
  (BitVec.extractLsb'_append_extractLsb'_eq_extractLsb' (by decide)).trans BitVec.extractLsb'_eq_self

/-! ### Decoding (R60, R63) -/

theorem decode_of_rsvd_zero {w : Word} (h : rsvdField w = 0) : decode w = decodeOpc (opcField w).toNat := if_pos h

theorem decode_of_rsvd_ne_zero {w : Word} (h : rsvdField w ≠ 0) : decode w = .error .reservedBits := if_neg h

theorem decode_eq_ok_iff (w : Word) (i : Instr) :
    decode w = .ok i ↔ rsvdField w = 0 ∧ decodeOpc (opcField w).toNat = .ok i := by
  by_cases h : rsvdField w = 0
  · rw [decode_of_rsvd_zero h, and_iff_right h]
  · rw [decode_of_rsvd_ne_zero h]
    exact iff_of_false (by simp) fun ⟨hrsvd, _⟩ => h hrsvd

theorem commandWordWf_iff (w : Word) :
    commandWordWf w = true ↔ rsvdField w = 0 ∧ 1 ≤ (opcField w).toNat ∧ (opcField w).toNat ≤ 8 := by
  simp only [commandWordWf, Bool.and_eq_true, decide_eq_true_eq, and_assoc]

/-- Settles O1: the words of the map are evaluated; for every other word RSVD or the opcode map answers the error. -/
theorem opcodeMapIsTotal : Obligations.OpcodeMapIsTotal :=
  ⟨rfl, rfl, rfl, rfl, rfl, rfl, rfl, rfl, fun _ h => decode_of_rsvd_ne_zero h,
    fun _ h hopc => (decode_of_rsvd_zero h).trans (decodeOpc_reserved hopc)⟩

/-- Settles O2: a word is its two fields, and a command fixes both. -/
theorem decodeAndEncodeAgree : Obligations.DecodeAndEncodeAgree := by
  intro w i
  constructor
  · intro h
    obtain ⟨hrsvd, hopc⟩ := (decode_eq_ok_iff w i).mp h
    calc w = rsvdField w ++ opcField w := (rsvdField_append_opcField w).symm
      _ = (0 : BitVec 28) ++ opcOf i := by rw [hrsvd, eq_opcOf_of_decodeOpc hopc]
  · rintro rfl
    exact Machine.decode_encode i

/-- Settles O3: under a zero RSVD field, the opcode map answers a command exactly on 1 to 8. -/
theorem legalWordsAreTheWellFormedOnes : Obligations.LegalWordsAreTheWellFormedOnes := by
  intro w
  simp only [commandWordWf_iff, decode_eq_ok_iff, exists_and_left, exists_decodeOpc_iff]

end Sys2Proof

/-! PROOFS. The assembler's INIT, WRITE and one quantum (30_encoding.md R65, 42_scheduler.md R75 to R77). -/

namespace Sys2Proof.Safety

open Sys2Proof.Machine

/-! ### The assembler's INIT and WRITE (R65) -/

theorem step_csrw {s : State} {off : Nat} {v : Word} {rest : List Input} (hp : s.params.wf = true)
    (hin : s.inputs = csrw s.params off v :: rest) (h4 : off % 4 = 0) (hle : off ≤ 0xFC) :
    step s = csrWrite off v { s with inputs := rest } := by
  rw [step_cons hp hin]
  simp only [csrw, perform, busWrite, csrOffset_at h4 hle]

theorem step_csrw_arg0 {s : State} {v : Word} {rest : List Input} (hp : s.params.wf = true)
    (hin : s.inputs = csrw s.params 0x04 v :: rest) : step s = .next { s with inputs := rest, arg0 := v } :=
  step_csrw hp hin rfl (by decide)

theorem step_csrw_arg1 {s : State} {v : Word} {rest : List Input} (hp : s.params.wf = true)
    (hin : s.inputs = csrw s.params 0x08 v :: rest) : step s = .next { s with inputs := rest, arg1 := v } :=
  step_csrw hp hin rfl (by decide)

theorem step_csrw_arg2 {s : State} {v : Word} {rest : List Input} (hp : s.params.wf = true)
    (hin : s.inputs = csrw s.params 0x0C v :: rest) : step s = .next { s with inputs := rest, arg2 := v } :=
  step_csrw hp hin rfl (by decide)

theorem execute_encode (i : Instr) (s : State) : execute (encode i) s = exec i s := by
  simp only [execute, decode_encode]

/-- The last line of an expansion: the CMD write of a command's own word runs the command (R61). -/
theorem step_csrw_command {s : State} {i : Instr} {rest : List Input} (hp : s.params.wf = true)
    (hin : s.inputs = csrw s.params 0x00 (encode i) :: rest) : step s = exec i { s with inputs := rest } :=
  (step_csrw hp hin rfl (by decide)).trans (execute_encode i _)

/-- Settles O58: each ARG write is one step, and the CMD write runs the command on what they left. -/
theorem pseudoInstructionsRunTheirCommands : Obligations.PseudoInstructionsRunTheirCommands := by
  constructor
  · intro s rate bits ch rest hp hin
    refine Eq.trans (runs_succ (step_csrw_arg0 hp hin)) ?_
    refine Eq.trans (runs_succ (step_csrw_arg1 hp rfl)) ?_
    refine Eq.trans (runs_succ (step_csrw_arg2 hp rfl)) ?_
    exact (runs_one _).trans (step_csrw_command hp rfl)
  · intro s src n rest hp hin
    refine Eq.trans (runs_succ (step_csrw_arg0 hp hin)) ?_
    refine Eq.trans (runs_succ (step_csrw_arg1 hp rfl)) ?_
    exact (runs_one _).trans (step_csrw_command hp rfl)

/-! ### One quantum (R65, R75 to R77) -/

theorem Inv.slotFrames_length {s : State} (h : Inv s) (i : SlotId) : (slotFrames s i).length = s.params.q := by
  cases i with
  | zero => exact h.slot0_length
  | one => exact h.slot1_length

/-- What `k` BEATs leave of an armed transfer with as many frames left: the slot's next `k` frames are out. -/
def afterBeats (k : Nat) (rest : List Input) (s : State) : State :=
  { s with
    inputs := rest
    out := s.out ++ ((slotFrames s s.active).drop s.xferPos).take k
    xferPos := s.xferPos + k }

theorem afterBeats_zero (s : State) : afterBeats 0 s.inputs s = s := by
  simp [afterBeats]

/-- A BEAT takes the first of the frames that are left (R75). -/
theorem afterBeats_succ {k : Nat} {rest rest' : List Input} {s : State}
    (hlt : s.xferPos < (slotFrames s s.active).length) :
    afterBeats (k + 1) rest s =
      afterBeats k rest { s with
        inputs := rest'
        out := s.out ++ [slotRead s s.active s.xferPos]
        xferPos := s.xferPos + 1 } := by
  have hframes : ((slotFrames s s.active).drop s.xferPos).take (k + 1) =
      slotRead s s.active s.xferPos :: ((slotFrames s s.active).drop (s.xferPos + 1)).take k := by
    rw [List.drop_eq_getElem_cons hlt, List.take_succ_cons, slotRead, List.getD_eq_getElem _ _ hlt]
  simp only [afterBeats, hframes, List.append_assoc, List.singleton_append, Nat.add_assoc, Nat.add_comm 1 k]
  rfl

theorem runs_beats {k : Nat} {s : State} {rest : List Input} (h : Inv s) (ha : s.armed = true)
    (hk : s.xferPos + k ≤ s.params.q) (hin : s.inputs = asmBeats k ++ rest) :
    runs k s = .next (afterBeats k rest s) := by
  induction k generalizing s with
  | zero =>
    obtain rfl : s.inputs = rest := hin
    rw [afterBeats_zero, runs_zero]
  | succ k ih =>
    have henabled : beatEnabled s = true := by
      simp [beatEnabled, ha, h.streaming_clock (h.streaming_of_armed ha)]
      omega
    have hstep : step s = .next { s with
        inputs := asmBeats k ++ rest
        out := s.out ++ [slotRead s s.active s.xferPos]
        xferPos := s.xferPos + 1 } := by
      rw [step_cons h.params hin, perform_beat]
      exact congrArg _ (beat_of_enabled (s := { s with inputs := asmBeats k ++ rest }) henabled)
    rw [runs_succ hstep, afterBeats_succ (by rw [h.slotFrames_length]; omega)]
    exact ih (stepKeepsTheInvariant _ _ h hstep) ha (by simp; omega) rfl

/-- The state COMPLETE leaves at the end of a transfer begun at its first frame: the whole slot is out, and its
completion is signalled (R76). -/
def transferDone (rest : List Input) (s : State) : State :=
  { s with
    inputs := rest
    out := s.out ++ slotFrames s s.active
    xferPos := s.params.q
    armed := false
    pending := true }

theorem step_complete_afterBeats {s : State} {rest : List Input} (h : Inv s) (ha : s.armed = true)
    (hpos : s.xferPos = 0) :
    step (afterBeats s.params.q (.complete :: rest) s) = .next (transferDone rest s) := by
  have hall : (slotFrames s s.active).take s.params.q = slotFrames s s.active :=
    List.take_of_length_le (h.slotFrames_length _).le
  rw [step_cons (s := afterBeats s.params.q (.complete :: rest) s) h.params rfl, perform_complete, complete_of_enabled]
  · simp only [afterBeats, transferDone, hpos, List.drop_zero, hall, Nat.zero_add]
  · simp [completeEnabled, afterBeats, ha, hpos]

theorem serviceEnabled_transferDone {s : State} {rest : List Input} (h : Inv s) (ha : s.armed = true) :
    serviceEnabled (transferDone rest s) = true := by
  have hs := h.streaming_of_armed ha
  simp [serviceEnabled, transferDone, hs, h.irq_enabled (by simp [hs])]

/-- `@QUANTUM` ends in the SERVICE of the completed transfer. -/
theorem runs_quantum {s : State} {rest : List Input} (h : Inv s) (ha : s.armed = true) (hpos : s.xferPos = 0)
    (hin : s.inputs = asmQuantum s.params ++ rest) :
    runs (s.params.q + 2) s = .next (service (transferDone rest s)) := by
  have hbeats : s.inputs = asmBeats s.params.q ++ .complete :: .service :: rest := by
    rw [hin, asmQuantum, List.append_assoc]
    rfl
  rw [runs_add (runs_beats h ha (by omega) hbeats), runs_succ (step_complete_afterBeats h ha hpos), runs_one]
  exact step_cons (s := transferDone (.service :: rest) s) h.params rfl

theorem runs_keepsInv {k : Nat} {s t : State} (h : Inv s) (hr : runs k s = .next t) : Inv t := by
  induction k generalizing s with
  | zero =>
    cases hr
    exact h
  | succ k ih =>
    cases hs : step s with
    | next u => exact ih (stepKeepsTheInvariant _ _ h hs) (runs_succ hs ▸ hr)
    | fault f => cases f
    | refused r =>
      have hc : Sys2Proof.core.step s = .refused r := hs
      simp [runs, Host.Core.run, hc] at hr

/-! ### What SERVICE hands over (R77) -/

theorem service_of_enabled {s : State} (he : serviceEnabled s = true) :
    service s = arm (otherSlot s.active) (refill s.active s) := if_pos he

/-- The refill writes the drained slot, the ring's indices and the underrun counter only. -/
theorem refill_frame (i : SlotId) (s : State) :
    (refill i s).params = s.params ∧ (refill i s).inputs = s.inputs ∧ (refill i s).out = s.out ∧
      slotFrames (refill i s) (otherSlot i) = slotFrames s (otherSlot i) := by
  unfold refill
  split <;> cases i <;> simp

theorem slotFrames_refill (i : SlotId) (s : State) :
    slotFrames (refill i s) i =
      if s.params.q ≤ s.count then (buffered s).take s.params.q else List.replicate s.params.q 0 := by
  unfold refill
  split
  · rw [slotFrames_setSlot_same, drainFrames_eq_take]
  · exact slotFrames_setSlot_same i (silentFrames s.params.q) s

theorem buffered_refill (i : SlotId) (s : State) :
    buffered (refill i s) = if s.params.q ≤ s.count then (buffered s).drop s.params.q else buffered s := by
  unfold refill
  split
  · rw [← buffered_drain]
    exact buffered_congr (by simp) (by simp) (by simp) (by simp)
  · exact buffered_congr (by simp) (by simp) (by simp) (by simp)

theorem refill_underrun (i : SlotId) (s : State) :
    (refill i s).underrun = if s.params.q ≤ s.count then s.underrun else satInc32 s.underrun := by
  unfold refill
  split <;> simp

/-- Settles O27: `Q` BEATs, by induction on their number, and COMPLETE put the slot out; SERVICE refills and re-arms. -/
theorem quantumEmitsTheActiveSlot : Obligations.QuantumEmitsTheActiveSlot := by
  intro s rest h ha hpos hin
  have hruns := runs_quantum h ha hpos hin
  have hinv := runs_keepsInv h hruns
  rw [service_of_enabled (serviceEnabled_transferDone h ha)] at hruns hinv
  obtain ⟨hparams, hinputs, hout, hother⟩ := refill_frame s.active (transferDone rest s)
  exact ⟨_, hruns, hinv, hinputs, hparams, hout, rfl, rfl, rfl, hother,
    slotFrames_refill s.active (transferDone rest s), buffered_refill s.active (transferDone rest s),
    refill_underrun s.active (transferDone rest s)⟩

end Sys2Proof.Safety

/-! PROOFS. WRITE, the snapshots and drain (41_ring_buffer.md R66 to R71). -/

namespace Sys2Proof.Machine

/-! ### The operands of WRITE (R66, R67) -/

theorem frameAddr_eq_ofNat (src : Addr) (i : Nat) : frameAddr src i = BitVec.ofNat 32 (src.toNat + 4 * i) := by
  rw [BitVec.ofNat_add, BitVec.ofNat_toNat, BitVec.setWidth_eq, frameAddr]

theorem writeFrames_eq_map (s : State) :
    writeFrames s = (List.range (writeAccepted s)).map fun i =>
      memRead s.hostMem (BitVec.ofNat 32 (s.arg1.toNat + 4 * i)) := by
  simp only [writeFrames, frameAddr_eq_ofNat, writeSource]

theorem lowBits_eq_zero_iff (a : Addr) : a.extractLsb' 0 2 = 0 ↔ a.toNat % 4 = 0 := by
  simp [← BitVec.toNat_inj]

theorem writeInvalid_iff (s : State) :
    writeInvalid s = true ↔ s.arg1 = 0 ∨ s.arg0 = 0 ∨ s.arg1.toNat % 4 ≠ 0 := by
  have hcount : s.arg0.toNat = 0 ↔ s.arg0 = 0 := by simp [← BitVec.toNat_inj]
  simp only [writeInvalid, Bool.or_eq_true, decide_eq_true_eq, or_assoc, hcount, ne_eq, lowBits_eq_zero_iff]

theorem writeInvalid_eq_false {s : State} (hsrc : s.arg1 ≠ 0) (hcount : s.arg0 ≠ 0)
    (halign : s.arg1.toNat % 4 = 0) : writeInvalid s = false := by
  rw [Bool.eq_false_iff, ne_eq, writeInvalid_iff]
  rintro (h | h | h)
  · exact hsrc h
  · exact hcount h
  · exact h halign

/-- R67: at most the `C` entries of the ring are written, so no entry is written twice. -/
theorem writeAccepted_le (s : State) : writeAccepted s ≤ s.params.c :=
  (Nat.min_le_right _ _).trans (Nat.sub_le _ _)

/-! ### The outcomes of WRITE -/

theorem exec_write_of_uninit {s : State} (h : s.state = .uninit) : exec .write s = .next (fail .notInit s) :=
  if_pos h

theorem exec_write_of_invalid {s : State} (h : s.state ≠ .uninit) (hinvalid : writeInvalid s = true) :
    exec .write s = .next (finish 0 0 s) :=
  (if_neg h).trans (if_pos hinvalid)

theorem exec_write_of_valid {s : State} (h : s.state ≠ .uninit) (hvalid : writeInvalid s = false) :
    exec .write s = .next (finish (countWord (writeAccepted s)) 0 (acceptFrames s)) :=
  (if_neg h).trans (if_neg (by simp [hvalid]))

/-- Ring entry `(widx + i) mod C` takes the i-th incoming frame. -/
theorem acceptFrames_ring_accepted {s : State} (hring : s.ring.length = s.params.c) {i : Nat}
    (hi : i < writeAccepted s) :
    (acceptFrames s).ring[(s.widx + i) % s.params.c]? =
      some (memRead s.hostMem (BitVec.ofNat 32 (s.arg1.toNat + 4 * i))) := by
  have hwritten := writeRing_get_written s.ring hring s.widx (writeFrames s)
    (by simpa using writeAccepted_le s) i (by simpa using hi)
  rw [acceptFrames_ring, hwritten, writeFrames_eq_map]
  simp [hi]

theorem acceptFrames_ring_kept {s : State} {j : Nat}
    (hj : ∀ i, i < writeAccepted s → j ≠ (s.widx + i) % s.params.c) :
    (acceptFrames s).ring[j]? = s.ring[j]? :=
  writeRing_get_other s.ring s.widx (writeFrames s) j (by simpa using hj)

/-- Settles O10, outcome by outcome: R96's error, R66's no-op, and the ring entries of R67. -/
theorem writeOutcomes : Obligations.WriteOutcomes := by
  refine ⟨decode_encode .write, fun s hring => ⟨exec_write_of_uninit, fun hs hinvalid => ?_, ?_⟩⟩
  · exact exec_write_of_invalid hs ((writeInvalid_iff s).mpr hinvalid)
  · rintro acc hs hsrc hcount halign rfl
    refine ⟨_, exec_write_of_valid hs (writeInvalid_eq_false hsrc hcount halign), rfl, ?_, ?_, ?_⟩
    · simp [hring]
    · exact fun i hi => acceptFrames_ring_accepted hring hi
    · exact fun j hj => acceptFrames_ring_kept hj

/-! ### drain and the snapshots (R69 to R71, R90) -/

theorem drainShortfall_eq (n : Nat) (s : State) : drainShortfall n s = n - s.count := by
  simp only [drainShortfall, drainCount]
  omega

/-- Settles O12: the ring arithmetic is `drainFrames_append_buffered`. -/
theorem drainTakesTheOldest : Obligations.DrainTakesTheOldest := fun s n =>
  ⟨drainFrames_eq_take n s, buffered_drain n s, drainShortfall_eq n s, rfl⟩

/-- Settles O13: each snapshot is `finish` with its counts, and has no other branch. -/
theorem snapshotsReturnTheirCounts : Obligations.SnapshotsReturnTheirCounts :=
  ⟨⟨decode_encode .getFreeSpace, decode_encode .getBufferedCount, decode_encode .getStats⟩,
    fun _ => ⟨rfl, rfl, rfl⟩⟩

end Sys2Proof.Machine

namespace Sys2Proof.Safety

open Sys2Proof.Machine

/-! ### The frames a WRITE leaves in the ring (R68) -/

/-- Settles O11: the outcome registers are no part of the ring, and accepting frames appends them. -/
theorem writeKeepsBufferedFrames : Obligations.WriteKeepsBufferedFrames := by
  intro s h hs hsrc hcount halign
  refine ⟨_, exec_write_of_valid hs (writeInvalid_eq_false hsrc hcount halign), ?_⟩
  calc buffered (finish (countWord (writeAccepted s)) 0 (acceptFrames s))
      = buffered (acceptFrames s) := rfl
    _ = buffered s ++ writeFrames s := buffered_acceptFrames h.ring_length h.count_le h.widx_eq
    _ = buffered s ++ (List.range (writeAccepted s)).map fun i =>
          memRead s.hostMem (BitVec.ofNat 32 (s.arg1.toNat + 4 * i)) := by rw [writeFrames_eq_map]

end Sys2Proof.Safety

/-! PROOFS. The scheduler's commands and events (42_scheduler.md R72 to R77, R80). -/

namespace Sys2Proof.Machine

/-! ### The outcomes of START (R72) -/

theorem exec_start_of_uninit {s : State} (h : s.state = .uninit) : exec .start s = .next (fail .notInit s) := by
  simp only [exec, execStart, h]

theorem exec_start_of_streaming {s : State} (h : s.state = .streaming) : exec .start s = .next (finish 0 0 s) := by
  simp only [exec, execStart, h]

theorem exec_start_of_halted {s : State} (h : s.state = .idle ∨ s.state = .stopped) :
    exec .start s = .next (finish 0 0 (startStreaming s)) := by
  rcases h with h | h <;> simp only [exec, execStart, h]

/-- The frames START arms: what the ring gives, up to a quantum, then silence. -/
theorem padWithSilence_drainFrames (n : Nat) (s : State) :
    padWithSilence n (drainFrames n s) =
      (List.range (drainCount n s)).map (fun i => ringRead s (s.ridx + i)) ++
        List.replicate (n - drainCount n s) 0 := by
  rw [padWithSilence, drainFrames_length, drainFrames, silentFrames]

/-- Settles O17, outcome by outcome: R96's error, the no-op, and the quantum armed in slot 0. -/
theorem startOutcomes : Obligations.StartOutcomes := by
  refine ⟨decode_encode .start, fun s => ⟨exec_start_of_uninit, exec_start_of_streaming, ?_⟩⟩
  rintro k hs rfl
  rw [exec_start_of_halted hs, startStreaming, padWithSilence_drainFrames]
  rfl

/-! ### The outcomes of STOP (R73) -/

theorem exec_stop_of_uninit {s : State} (h : s.state = .uninit) : exec .stop s = .next (fail .notInit s) := by
  simp only [exec, execStop, h]

theorem exec_stop_of_streaming {s : State} (h : s.state = .streaming) :
    exec .stop s = .next (finish 0 0 (stopBody s)) := by
  simp only [exec, execStop, h]

theorem exec_stop_of_halted {s : State} (h : s.state = .idle ∨ s.state = .stopped) :
    exec .stop s = .next (finish 0 0 s) := by
  rcases h with h | h <;> simp only [exec, execStop, h]

/-- Settles O18, outcome by outcome: R96's error, the no-op, and the halt. -/
theorem stopOutcomes : Obligations.StopOutcomes :=
  ⟨decode_encode .stop, fun _ => ⟨exec_stop_of_uninit, exec_stop_of_halted, exec_stop_of_streaming⟩⟩

/-! ### The outcomes of CLEAR (R74) -/

theorem exec_clear_of_uninit {s : State} (h : s.state = .uninit) : exec .clear s = .next (fail .notInit s) := by
  simp only [exec, execClear, h]

theorem exec_clear_of_streaming {s : State} (h : s.state = .streaming) :
    exec .clear s = .next (finish 0 0 (zeroBuffers (stopBody s))) := by
  simp only [exec, execClear, h]

theorem exec_clear_of_halted {s : State} (h : s.state = .idle ∨ s.state = .stopped) :
    exec .clear s = .next (finish 0 0 (zeroBuffers s)) := by
  rcases h with h | h <;> simp only [exec, execClear, h]

/-- Settles O19, outcome by outcome: R96's error, the emptied buffers, and the same after STOP's body. -/
theorem clearOutcomes : Obligations.ClearOutcomes :=
  ⟨decode_encode .clear, fun _ => ⟨exec_clear_of_uninit, exec_clear_of_halted, exec_clear_of_streaming⟩⟩

/-! ### Idempotence (R80) -/

/-- A START leaves UNINIT or STREAMING, and from either a second START only writes the same outcome again. -/
theorem exec_start_idempotent {s t : State} (h : exec .start s = .next t) : exec .start t = .next t := by
  rcases execStart_next h with ⟨hs, rfl⟩ | ⟨hs, rfl⟩ | ⟨-, rfl⟩
  · exact exec_start_of_uninit hs
  · exact exec_start_of_streaming hs
  · exact exec_start_of_streaming (startStreaming_state s)

/-- A STOP leaves a halted state, and from it a second STOP only writes the same outcome again. -/
theorem exec_stop_idempotent {s t : State} (h : exec .stop s = .next t) : exec .stop t = .next t := by
  rcases execStop_next h with ⟨hs, rfl⟩ | ⟨-, rfl⟩ | ⟨hs, rfl⟩
  · exact exec_stop_of_uninit hs
  · exact exec_stop_of_halted (.inr (stopBody_state s))
  · exact exec_stop_of_halted hs

/-- Settles O20, by the state each command leaves. -/
theorem startAndStopAreIdempotent : Obligations.StartAndStopAreIdempotent :=
  fun _ _ => ⟨exec_start_idempotent, exec_stop_idempotent⟩

/-! ### When an event is enabled (R75 to R77) -/

theorem beatEnabled_iff (s : State) :
    beatEnabled s = true ↔ s.armed = true ∧ s.clkEn = true ∧ s.xferPos < s.params.q := by
  simp only [beatEnabled, Bool.and_eq_true, decide_eq_true_eq, and_assoc]

theorem completeEnabled_iff (s : State) :
    completeEnabled s = true ↔ s.armed = true ∧ s.xferPos = s.params.q := by
  simp only [completeEnabled, Bool.and_eq_true, decide_eq_true_eq]

theorem serviceEnabled_iff (s : State) :
    serviceEnabled s = true ↔ s.pending = true ∧ s.irqEn = true ∧ s.state = .streaming := by
  simp only [serviceEnabled, Bool.and_eq_true, decide_eq_true_eq, and_assoc]

/-! ### The events -/

theorem slotRead_of_getElem? {s : State} {i : SlotId} {k : Nat} {f : Frame}
    (h : (slotFrames s i)[k]? = some f) : slotRead s i k = f := by
  rw [slotRead, List.getD_eq_getElem?_getD, h, Option.getD_some]

/-- Settles O21: taking the input leaves BEAT enabled, and the frame it reads is `f`. -/
theorem beatDeliversTheNextFrame : Obligations.BeatDeliversTheNextFrame := by
  intro s f rest hp hin harmed hclk hpos hf
  have he : beatEnabled { s with inputs := rest } = true := (beatEnabled_iff _).mpr ⟨harmed, hclk, hpos⟩
  have hread : slotRead { s with inputs := rest } s.active s.xferPos = f := slotRead_of_getElem? hf
  rw [step_cons hp hin, perform_beat, beat_of_enabled he, hread]

/-- Settles O22: taking the input leaves COMPLETE enabled. -/
theorem completeRaisesTheSignal : Obligations.CompleteRaisesTheSignal := by
  intro s rest hp hin harmed hpos
  have he : completeEnabled { s with inputs := rest } = true := (completeEnabled_iff _).mpr ⟨harmed, hpos⟩
  rw [step_cons hp hin, perform_complete, complete_of_enabled he]

/-- Settles O23, by whether the ring holds a quantum and by which slot is active. -/
theorem serviceSwapsRefillsAndRearms : Obligations.ServiceSwapsRefillsAndRearms := by
  intro s rest hp hin hpending hirq hs
  have he : serviceEnabled { s with inputs := rest } = true := (serviceEnabled_iff _).mpr ⟨hpending, hirq, hs⟩
  rw [step_cons hp hin, perform_service]
  refine ⟨fun hq => ?_, fun hq => ?_⟩
  · have hcount : drainCount s.params.q { s with inputs := rest } = s.params.q := drainCount_of_le hq
    rw [service_refills he hq, drain, drainFrames, hcount]
    cases hactive : s.active <;> rfl
  · rw [service_underruns he hq]
    cases hactive : s.active <;> rfl

/-- Settles O24, event by event. -/
theorem disabledEventsChangeNothing : Obligations.DisabledEventsChangeNothing := by
  intro s i rest hp hin h
  rw [step_cons hp hin]
  rcases h with ⟨rfl, hd⟩ | ⟨rfl, hd⟩ | ⟨rfl, hd⟩
  · rw [perform_beat, beat_of_not_enabled]
    exact Bool.eq_false_iff.mpr fun he => hd ((beatEnabled_iff _).mp he)
  · rw [perform_complete, complete_of_not_enabled]
    exact Bool.eq_false_iff.mpr fun he => hd ((completeEnabled_iff _).mp he)
  · rw [perform_service, service_of_not_enabled]
    exact Bool.eq_false_iff.mpr fun he => hd ((serviceEnabled_iff _).mp he)

end Sys2Proof.Machine

/-! PROOFS. A streaming episode without WRITEs (42_scheduler.md R81, R82). -/

namespace Sys2Proof.Safety

open Sys2Proof.Machine

/-! ### The refills of an episode -/

/-- The frames START leaves in the ring: what the refills of the episode are taken from. -/
def leftAfterStart (s : State) : List Frame := (buffered s).drop s.params.q

@[simp] theorem leftAfterStart_length (s : State) : (leftAfterStart s).length = s.count - s.params.q := by
  simp [leftAfterStart]

theorem episodeQuantum_zero (s : State) : episodeQuantum s 0 = firstQuantum s := rfl

theorem episodeQuantum_one (s : State) : episodeQuantum s 1 = s.slot1 := rfl

theorem episodeQuantum_add_two (s : State) (m : Nat) :
    episodeQuantum s (m + 2) = refillAt s.params.q (leftAfterStart s) (m + 1) := rfl

/-- The refills are the quanta of the frames left, in order, while these hold one more (R81). -/
theorem refillAt_succ {q : Nat} (hq : 0 < q) (left : List Frame) (m : Nat) :
    refillAt q left (m + 1) = if m < left.length / q then (left.drop (m * q)).take q else silentFrames q :=
  if_congr (Nat.le_div_iff_mul_le hq).symm rfl rfl

/-- How many of the first `m` refills find a quantum among `len` frames: the others are underruns. -/
def refillsTaken (q len m : Nat) : Nat := min m (len / q)

theorem refillsTaken_zero (q len : Nat) : refillsTaken q len 0 = 0 := Nat.zero_min _

theorem refillsTaken_of_le {q len m : Nat} (hm : m ≤ len / q) : refillsTaken q len m = m := Nat.min_eq_left hm

theorem refillsTaken_of_ge {q len m : Nat} (hm : len / q ≤ m) : refillsTaken q len m = len / q :=
  Nat.min_eq_right hm

/-- The ring holds another quantum exactly while fewer refills have been taken than it had quanta. -/
theorem le_sub_refillsTaken_iff {q len m : Nat} (hq : 0 < q) :
    q ≤ len - refillsTaken q len m * q ↔ m < len / q := by
  rcases Nat.lt_or_ge m (len / q) with hm | hm
  · have hfits : (m + 1) * q ≤ len := (Nat.le_div_iff_mul_le hq).mp hm
    rw [Nat.succ_mul] at hfits
    rw [refillsTaken_of_le hm.le]
    exact iff_of_true (by omega) hm
  · have hrem : len - len / q * q < q := by
      rw [Nat.mul_comm, ← Nat.mod_eq_sub_mul_div]
      exact Nat.mod_lt len hq
    rw [refillsTaken_of_ge hm]
    exact iff_of_false (Nat.not_le.mpr hrem) (Nat.not_lt.mpr hm)

/-! ### The invariant of an episode -/

/-- `m` quanta into the episode that START began from `s`: quantum `m` is armed at its first frame, quantum `m + 1`
waits in the other slot, and the quanta before are out; the refills so far have left the ring, and the others have
been counted. -/
structure Episode (s : State) (m : Nat) (t : State) : Prop where
  inv : Inv t
  params : t.params = s.params
  armed : t.armed = true
  xferPos : t.xferPos = 0
  out : t.out = s.out ++ (List.range m).flatMap (episodeQuantum s)
  active : slotFrames t t.active = episodeQuantum s m
  idle : slotFrames t (otherSlot t.active) = episodeQuantum s (m + 1)
  ring : buffered t =
    (leftAfterStart s).drop (refillsTaken s.params.q (s.count - s.params.q) m * s.params.q)
  underrun : t.underrun.toNat =
    min 0xFFFFFFFF (s.underrun.toNat + (m - (s.count - s.params.q) / s.params.q))

theorem Episode.count {s t : State} {m : Nat} (he : Episode s m t) :
    t.count = s.count - s.params.q - refillsTaken s.params.q (s.count - s.params.q) m * s.params.q := by
  rw [← buffered_length, he.ring, List.length_drop, leftAfterStart_length]

theorem Inv.q_pos {s : State} (h : Inv s) : 0 < s.params.q := by
  obtain ⟨hq, -⟩ := (params_wf_iff _).mp h.params
  exact hq

/-- START begins the episode: `F0` is armed in slot 0, and slot 1 waits as START found it (R72, R81). -/
theorem Episode.start {s : State} {rest : List Input} (h : Inv s) (hs : s.state = .idle ∨ s.state = .stopped)
    (hin : s.inputs = asmStart s.params ++ rest) :
    ∃ t, step s = .next t ∧ Episode s 0 t ∧ t.inputs = rest := by
  have hstep : step s = .next (finish 0 0 (startStreaming { s with inputs := rest })) :=
    (step_csrw_command h.params hin).trans (exec_start_of_halted hs)
  refine ⟨_, hstep, ?_, rfl⟩
  exact
    { inv := stepKeepsTheInvariant _ _ h hstep
      params := rfl
      armed := rfl
      xferPos := rfl
      out := by simp
      active := rfl
      idle := rfl
      ring := by
        rw [refillsTaken_zero, Nat.zero_mul, List.drop_zero, leftAfterStart, ← buffered_drain]
        rfl
      underrun := by
        have hlt := s.underrun.isLt
        simp only [finish_underrun, startStreaming_underrun, Nat.zero_sub]
        omega }

/-- One `@QUANTUM` later: the armed quantum is out, the waiting one is armed, and the drained slot takes the next
refill, by whether the ring still holds a quantum (R77, R81, R82). -/
theorem Episode.quantum {s t : State} {m : Nat} {rest : List Input} (he : Episode s m t)
    (hin : t.inputs = asmQuantum s.params ++ rest) :
    ∃ u, runs (s.params.q + 2) t = .next u ∧ Episode s (m + 1) u ∧ u.inputs = rest := by
  have hq : 0 < s.params.q := he.params ▸ he.inv.q_pos
  obtain ⟨u, hruns, hinv, hinputs, hparams, hout, hactive, harmed, hpos, hnow, hrefill, hring, hunder⟩ :=
    quantumEmitsTheActiveSlot t rest he.inv he.armed he.xferPos (by rw [hin, he.params])
  simp only [he.params, he.count, le_sub_refillsTaken_iff hq, he.ring] at hruns hrefill hring hunder
  have hother : otherSlot u.active = t.active := by rw [hactive, otherSlot_otherSlot]
  refine ⟨u, hruns, ?_, hinputs⟩
  exact
    { inv := hinv
      params := hparams.trans he.params
      armed := harmed
      xferPos := hpos
      out := by
        rw [hout, he.out, he.active, List.append_assoc, List.range_succ, List.flatMap_append, List.flatMap_singleton]
      active := hnow.trans he.idle
      idle := by
        rw [hother, hrefill, episodeQuantum_add_two, refillAt_succ hq, leftAfterStart_length]
        split
        · rename_i hm
          rw [refillsTaken_of_le hm.le]
        · rfl
      ring := by
        rw [hring]
        split
        · rename_i hm
          rw [refillsTaken_of_le hm.le, refillsTaken_of_le hm, List.drop_drop, Nat.succ_mul]
        · rename_i hm
          have hle := Nat.not_lt.mp hm
          rw [refillsTaken_of_ge hle, refillsTaken_of_ge (hle.trans (Nat.le_succ m))]
      underrun := by
        have hcount := he.underrun
        rw [hunder]
        split
        · omega
        · rw [countersSaturate]
          omega }

/-- `n` quanta of an episode, by induction on `n`. -/
theorem Episode.quanta {n m : Nat} {s t : State} {rest : List Input} (he : Episode s m t)
    (hin : t.inputs = asmQuanta s.params n ++ rest) :
    ∃ u, runs (n * (s.params.q + 2)) t = .next u ∧ Episode s (m + n) u ∧ u.inputs = rest := by
  induction n generalizing m t with
  | zero => exact ⟨t, by rw [Nat.zero_mul, runs_zero], he, hin⟩
  | succ n ih =>
    have hnext : t.inputs = asmQuantum s.params ++ (asmQuanta s.params n ++ rest) := by
      rw [hin, asmQuanta, List.replicate_succ, List.flatten_cons, List.append_assoc, asmQuanta]
    obtain ⟨u, hruns, heu, hinu⟩ := he.quantum hnext
    obtain ⟨v, hrunsv, hev, hinv⟩ := ih heu hinu
    refine ⟨v, ?_, by rwa [Nat.add_right_comm] at hev, hinv⟩
    rw [Nat.succ_mul, Nat.add_comm, runs_add hruns, hrunsv]

/-- START and `n` quanta: a whole episode without WRITEs. -/
theorem runs_episode {n : Nat} {s : State} {rest : List Input} (h : Inv s)
    (hs : s.state = .idle ∨ s.state = .stopped)
    (hin : s.inputs = asmStart s.params ++ asmQuanta s.params n ++ rest) :
    ∃ t, runs (1 + n * (s.params.q + 2)) s = .next t ∧ Episode s n t ∧ t.inputs = rest := by
  rw [List.append_assoc] at hin
  obtain ⟨t, hstep, het, hint⟩ := Episode.start h hs hin
  obtain ⟨u, hruns, heu, hinu⟩ := het.quanta hint
  rw [Nat.zero_add] at heu
  exact ⟨u, by rw [Nat.add_comm, runs_succ hstep, hruns], heu, hinu⟩

/-- Settles O28: after `n` quanta the ones before are out, and the next is armed at its first frame. -/
theorem episodeOutput : Obligations.EpisodeOutput := by
  intro s n rest h hs hin
  obtain ⟨t, hruns, he, hinputs⟩ := runs_episode h hs hin
  exact ⟨t, hruns, hinputs, he.inv.streaming_of_armed he.armed, he.armed, he.xferPos, he.out⟩

/-- Settles O29: the refills taken so far have left the ring, and every other one has been counted. -/
theorem episodeUnderruns : Obligations.EpisodeUnderruns := by
  rintro s n left rest h hs hin rfl
  have hleft : s.count - min s.count s.params.q = s.count - s.params.q := by omega
  obtain ⟨t, hruns, he, -⟩ := runs_episode h hs hin
  rw [hleft]
  exact ⟨t, hruns, he.count, he.underrun⟩

end Sys2Proof.Safety

/-! PROOFS. The configurator: the divisor, the claim and INIT (43_configurator.md R83 to R88). -/

namespace Sys2Proof.Machine

/-! ### The divisor (R86) -/

theorem bitClock_eq (rate : Nat) : bitClock rate = rate * 32 := Nat.mul_assoc rate 16 2

theorem divisor_eq_some_iff (p : Config.Params) (rate : Nat) (d : Divisor) :
    divisor p rate = some d ↔
      rate ≠ 0 ∧ 1 ≤ divisorFixed p rate / 256 ∧ divisorFixed p rate / 256 ≤ 65535 ∧
        d = { bclk := BitVec.ofNat 32 (bitClock rate)
              dint := BitVec.ofNat 16 (divisorFixed p rate / 256)
              dfrac := BitVec.ofNat 8 (divisorFixed p rate % 256) } := by
  simp only [divisor, Option.ite_none_left_eq_some, Option.some.injEq, not_or, Nat.not_lt, and_assoc, eq_comm (b := d),
    ne_eq]

theorem divisor_isSome_iff (p : Config.Params) (rate : Nat) :
    (divisor p rate).isSome = true ↔
      rate ≠ 0 ∧ 1 ≤ divisorFixed p rate / 256 ∧ divisorFixed p rate / 256 ≤ 65535 := by
  simp only [Option.isSome_iff_exists, divisor_eq_some_iff, exists_and_left, exists_eq, and_true]

/-- The integer part is the plain quotient: the 8 fractional bits and the truncation drop out. -/
theorem divisorFixed_div (p : Config.Params) (rate : Nat) :
    divisorFixed p rate / 256 = p.sysClkHz / (bitClock rate * p.edgeFactor) := by
  rw [Nat.div_div_eq_div_mul, Nat.mul_div_mul_right _ _ (by decide)]

/-- R86: an accepted rate has `bclk * EDGE_FACTOR <= SYS_CLK_HZ < 2^32`, so its bit clock fits BCLK_HZ. -/
theorem bitClock_lt {p : Config.Params} {rate : Nat} (hp : p.wf = true) (h : 1 ≤ divisorFixed p rate / 256) :
    bitClock rate < 2 ^ 32 := by
  obtain ⟨-, -, -, hedge, -, -, hclk⟩ := (params_wf_iff p).mp hp
  rw [divisorFixed_div] at h
  have hfits : bitClock rate * p.edgeFactor ≤ p.sysClkHz := (Nat.div_pos_iff.mp h).2
  have hle : bitClock rate ≤ bitClock rate * p.edgeFactor := Nat.le_mul_of_pos_right _ hedge
  omega

/-- An accepted divisor holds the bit clock and the integer part with no bit lost. -/
theorem divisor_fields {p : Config.Params} {rate : Nat} {d : Divisor} (hp : p.wf = true)
    (h : divisor p rate = some d) :
    rate ≠ 0 ∧ d.bclk.toNat = bitClock rate ∧ 1 ≤ d.dint.toNat ∧ d.dint.toNat ≤ 65535 := by
  obtain ⟨hrate, hlo, hhi, rfl⟩ := (divisor_eq_some_iff p rate d).mp h
  have hdint : (BitVec.ofNat 16 (divisorFixed p rate / 256)).toNat = divisorFixed p rate / 256 :=
    Nat.mod_eq_of_lt (by omega)
  exact ⟨hrate, Nat.mod_eq_of_lt (bitClock_lt hp hlo), hdint.symm ▸ hlo, hdint.symm ▸ hhi⟩

/-- The 16.8 value determines its two parts. -/
theorem divisor_of_value {p : Config.Params} {rate : Nat} {d : Divisor} (hrate : rate ≠ 0)
    (hbclk : d.bclk.toNat = bitClock rate) (hlo : 1 ≤ d.dint.toNat)
    (hvalue : d.dint.toNat * 256 + d.dfrac.toNat = divisorFixed p rate) : divisor p rate = some d := by
  have hint : divisorFixed p rate / 256 = d.dint.toNat := by omega
  have hfrac : divisorFixed p rate % 256 = d.dfrac.toNat := by omega
  rw [divisor_eq_some_iff, hint, hfrac, ← hbclk]
  simp only [BitVec.ofNat_toNat, BitVec.setWidth_eq, and_true]
  exact ⟨hrate, hlo, by omega⟩

/-- At 150 MHz with EDGE_FACTOR 2 the integer part is `150 000 000 / (64 * rate)`. -/
theorem divisor_isSome_at_150MHz {p : Config.Params} {rate : Nat} (hclk : p.sysClkHz = 150000000)
    (hedge : p.edgeFactor = 2) : (divisor p rate).isSome = true ↔ 36 ≤ rate ∧ rate ≤ 2343750 := by
  rw [divisor_isSome_iff, divisorFixed_div, hclk, hedge]
  rcases Nat.eq_zero_or_pos rate with rfl | hpos
  · simp
  · have hden : bitClock rate * 2 = rate * 64 := by rw [bitClock_eq, Nat.mul_assoc]
    have hden_pos : 0 < rate * 64 := Nat.mul_pos hpos (by decide)
    rw [hden, Nat.le_div_iff_mul_le hden_pos, Nat.div_le_iff_le_mul_add_pred hden_pos]
    omega

/-- Settles O9: the fields lose no bit, the value fixes them, and the range is two bounds on the integer part. -/
theorem divisorIsExact : Obligations.DivisorIsExact := by
  refine ⟨fun p rate d hp => ⟨fun h => ?_, ?_⟩, fun p rate => divisor_isSome_at_150MHz⟩
  · obtain ⟨hrate, hbclk, hlo, hhi⟩ := divisor_fields hp h
    exact ⟨hrate, hbclk, hlo, hhi, Safety.divisor_value h⟩
  · rintro ⟨hrate, hbclk, hlo, -, hvalue⟩
    exact divisor_of_value hrate hbclk hlo hvalue

/-! ### The claim (R88) -/

theorem claimAnswer_of_listed {s : State} {b : Bool} {rest : List Bool} (h : s.claims = b :: rest) :
    claimAnswer s = b := by simp only [claimAnswer, h]

theorem claimAnswer_of_unlisted {s : State} (h : s.claims = []) : claimAnswer s = Config.claimOk s.draws := by
  simp only [claimAnswer, h]

theorem consumeClaim_of_listed {s : State} {b : Bool} {rest : List Bool} (h : s.claims = b :: rest) :
    consumeClaim s = { s with claims := rest } := by simp only [consumeClaim, h]

theorem consumeClaim_of_unlisted {s : State} (h : s.claims = []) :
    consumeClaim s = { s with draws := s.draws + 1 } := by simp only [consumeClaim, h]

/-- Settles O8, by whether the run fixes an answer. -/
theorem claimIsADraw : Obligations.ClaimIsADraw := fun _ =>
  ⟨fun _ _ h => ⟨claimAnswer_of_listed h, consumeClaim_of_listed h⟩,
    fun h => ⟨claimAnswer_of_unlisted h, consumeClaim_of_unlisted h⟩⟩

/-! ### The outcomes of INIT (R83, R100) -/

theorem initFormatOk_iff (s : State) : initFormatOk s = true ↔ s.arg1 = 16 ∧ s.arg2 = 2 := by
  simp only [initFormatOk, Bool.and_eq_true, decide_eq_true_eq, ← BitVec.toNat_inj]
  rfl

theorem exec_init_of_initialised {s : State} (h : s.state ≠ .uninit) :
    exec .init s = .next (fail .cfgReinit s) := if_pos h

theorem exec_init_of_bad_format {s : State} (h : s.state = .uninit) (hformat : initFormatOk s = false) :
    exec .init s = .next (fail .cfgFormat s) :=
  (if_neg (not_not_intro h)).trans (if_pos hformat)

theorem exec_init_of_bad_rate {s : State} (h : s.state = .uninit) (hformat : initFormatOk s = true)
    (hrate : divisor s.params (initRate s) = none) : exec .init s = .next (fail .cfgRate s) := by
  simp [exec, execInit, h, hformat, hrate]

theorem exec_init_of_claim_refused {s : State} {d : Divisor} (h : s.state = .uninit)
    (hformat : initFormatOk s = true) (hrate : divisor s.params (initRate s) = some d)
    (hclaim : claimAnswer s = false) : exec .init s = .next (fail .cfgResource (consumeClaim s)) := by
  simp [exec, execInit, h, hformat, hrate, hclaim]

theorem exec_init_of_success {s : State} {d : Divisor} (h : s.state = .uninit)
    (hformat : initFormatOk s = true) (hrate : divisor s.params (initRate s) = some d)
    (hclaim : claimAnswer s = true) :
    exec .init s = .next (finish 1 0 (initCommit d (consumeClaim s))) := by
  simp [exec, execInit, h, hformat, hrate, hclaim]

/-- Settles O7, check by check: the four failures of R100 in order, and the commit of R83, which reads only what the
claim leaves unchanged. -/
theorem initOutcomes : Obligations.InitOutcomes := by
  refine ⟨decode_encode .init, fun s => ⟨exec_init_of_initialised, fun hs hformat => ?_, fun hs hbits hch => ?_,
    fun d hs hbits hch => ?_, fun d hs hbits hch hrate hclaim => ?_⟩⟩
  · exact exec_init_of_bad_format hs (Bool.eq_false_iff.mpr (mt (initFormatOk_iff s).mp hformat))
  · exact exec_init_of_bad_rate hs ((initFormatOk_iff s).mpr ⟨hbits, hch⟩)
  · exact exec_init_of_claim_refused hs ((initFormatOk_iff s).mpr ⟨hbits, hch⟩)
  · rw [exec_init_of_success hs ((initFormatOk_iff s).mpr ⟨hbits, hch⟩) hrate hclaim, ← consumeClaim_params s,
      ← consumeClaim_arg0 s]
    rfl

end Sys2Proof.Machine

/-! PROOFS. What a CSR write does, and illegal command words (44_stats_and_bus.md R92, R93). -/

namespace Sys2Proof.Safety

open Sys2Proof.Machine

/-! ### A CSR write at every offset (R92) -/

/-- Past ARG2 every register is read-only or reserved, so no write reaches it. -/
theorem csrWrite_of_readOnly {off : Nat} (h : 0x10 ≤ off) (v : Word) (s : State) :
    csrWrite off v s = .next s := by
  obtain ⟨k, rfl⟩ := Nat.exists_eq_add_of_le' h
  rfl

/-- Settles O37, offset by offset: the command word, each ARG register, and the registers that ignore the write. -/
theorem csrWriteEffects : Obligations.CsrWriteEffects := by
  intro s off v rest hp hin
  refine ⟨?cmd, ?arg0, ?arg1, ?arg2, ?readOnly⟩
  case cmd =>
    rintro rfl
    exact step_csrw hp hin rfl (by decide)
  case arg0 =>
    rintro rfl
    exact step_csrw_arg0 hp hin
  case arg1 =>
    rintro rfl
    exact step_csrw_arg1 hp hin
  case arg2 =>
    rintro rfl
    exact step_csrw_arg2 hp hin
  case readOnly =>
    intro h4 hlo hle
    exact (step_csrw hp hin h4 hle).trans (csrWrite_of_readOnly hlo v _)

/-! ### Illegal command words (R93) -/

/-- CMD is offset 0 of the window. -/
theorem csrw_cmd (p : Config.Params) (w : Word) : csrw p 0x00 w = commandInput p w := by
  simp only [csrw, commandInput, BitVec.add_zero]

/-- A CMD write executes its word, legal or not. -/
theorem step_cmdWrite {s : State} {w : Word} {rest : List Input} (hp : s.params.wf = true)
    (hin : s.inputs = commandInput s.params w :: rest) : step s = execute w { s with inputs := rest } := by
  rw [← csrw_cmd] at hin
  exact step_csrw hp hin rfl (by decide)

theorem execute_of_illegal {w : Word} {e : DecodeError} (hd : decode w = .error e) (s : State) :
    execute w s = .next (fail .illegalCmd s) := by
  simp only [execute, hd, illegalCommand]

/-- Settles O5: the CMD write executes the word, which only fails with ILLEGAL_CMD. -/
theorem illegalWordOnlyReports : Obligations.IllegalWordOnlyReports :=
  fun _ _ _ _ hp hin hd => (step_cmdWrite hp hin).trans (execute_of_illegal hd _)

end Sys2Proof.Safety

/-! PROOFS. The outcomes of commands (60_exceptions.md R94 to R96, R103). -/

namespace Sys2Proof.Machine

/-! ### Every command ends, and how (R94, R95) -/

/-- Settles O43, by the arms of every command. -/
theorem everyCommandEnds : Obligations.EveryCommandEnds := exec_answers

/-- Taking a claim's answer writes the model's own fields only (log 4). -/
theorem consumeClaim_frame (s : State) :
    consumeClaim s = { s with claims := (consumeClaim s).claims, draws := (consumeClaim s).draws } := by
  cases hc : s.claims with
  | nil => rw [consumeClaim_of_unlisted hc]
  | cons b rest => rw [consumeClaim_of_listed hc]

/-- A command ends OK, or it is `fail` on the old state, where INIT may have taken the claim's answer before. -/
theorem exec_ok_or_fail {c : Instr} {s t : State} (h : exec c s = .next t) :
    t.err = .ok ∨ (∃ e, t = fail e s) ∨ ∃ e, t = fail e (consumeClaim s) := by
  cases c with
  | init =>
    rcases execInit_next h with ⟨-, rfl⟩ | ⟨-, -, rfl⟩ | ⟨-, -, -, rfl⟩ | ⟨d, -, -, -, -, rfl⟩ |
      ⟨d, -, -, -, -, rfl⟩
    · exact .inr (.inl ⟨.cfgReinit, rfl⟩)
    · exact .inr (.inl ⟨.cfgFormat, rfl⟩)
    · exact .inr (.inl ⟨.cfgRate, rfl⟩)
    · exact .inr (.inr ⟨.cfgResource, rfl⟩)
    · exact .inl rfl
  | write =>
    rcases execWrite_next h with ⟨-, rfl⟩ | ⟨-, -, rfl⟩ | ⟨-, -, rfl⟩
    · exact .inr (.inl ⟨.notInit, rfl⟩)
    · exact .inl rfl
    · exact .inl rfl
  | start =>
    rcases execStart_next h with ⟨-, rfl⟩ | ⟨-, rfl⟩ | ⟨-, rfl⟩
    · exact .inr (.inl ⟨.notInit, rfl⟩)
    · exact .inl rfl
    · exact .inl rfl
  | stop =>
    rcases execStop_next h with ⟨-, rfl⟩ | ⟨-, rfl⟩ | ⟨-, rfl⟩
    · exact .inr (.inl ⟨.notInit, rfl⟩)
    · exact .inl rfl
    · exact .inl rfl
  | clear =>
    rcases execClear_next h with ⟨-, rfl⟩ | ⟨-, rfl⟩ | ⟨-, rfl⟩
    · exact .inr (.inl ⟨.notInit, rfl⟩)
    · exact .inl rfl
    · exact .inl rfl
  | getFreeSpace | getBufferedCount | getStats => cases h; exact .inl rfl

/-- Settles O42: a command that does not end OK is `fail`, after at most the claim's answer. -/
theorem failureIsPrecise : Obligations.FailureIsPrecise := by
  intro c s t h herr
  rcases exec_ok_or_fail h with hok | ⟨e, rfl⟩ | ⟨e, rfl⟩
  · exact absurd hok herr
  · rfl
  · exact congrArg (fail e) (consumeClaim_frame s)

/-! ### The guard of UNINIT (R96) -/

/-- INIT is what leaves UNINIT, so none of its outcomes is NOT_INIT (R100). -/
theorem execInit_err_ne_notInit {s t : State} (h : execInit s = .next t) : t.err ≠ .notInit := by
  rcases execInit_next h with ⟨-, rfl⟩ | ⟨-, -, rfl⟩ | ⟨-, -, -, rfl⟩ | ⟨d, -, -, -, -, rfl⟩ |
    ⟨d, -, -, -, -, rfl⟩ <;> simp

/-- Settles O41, command by command. -/
theorem uninitGuard : Obligations.UninitGuard := by
  intro s hs
  simp only [List.forall_mem_cons, List.not_mem_nil, false_imp_iff, implies_true, and_true]
  obtain ⟨t, hinit⟩ := exec_answers .init s
  refine ⟨⟨?write, ?start, ?stop, ?clear⟩, ⟨t, hinit, execInit_err_ne_notInit hinit⟩, ?free, ?count, ?stats⟩
  case write => exact exec_write_of_uninit hs
  case start => exact exec_start_of_uninit hs
  case stop => exact exec_stop_of_uninit hs
  case clear => exact exec_clear_of_uninit hs
  case free => exact ⟨_, rfl, by simp⟩
  case count => exact ⟨_, rfl, by simp⟩
  case stats => exact ⟨_, rfl, by simp⟩

/-! ### The outcome is never read (R103) -/

/-- The state with another outcome of the command before. -/
def withErr (e : ErrCode) (s : State) : State := { s with err := e }

theorem consumeClaim_withErr (e : ErrCode) (s : State) : consumeClaim (withErr e s) = withErr e (consumeClaim s) := by
  cases hc : s.claims <;> simp [consumeClaim, withErr, hc]

/-- INIT's checks do not read the outcome, and each of its ends overwrites it. -/
theorem execInit_withErr (e : ErrCode) (s : State) : execInit (withErr e s) = execInit s := by
  have hstate : (withErr e s).state = s.state := rfl
  have hformat : initFormatOk (withErr e s) = initFormatOk s := rfl
  have hrate : divisor (withErr e s).params (initRate (withErr e s)) = divisor s.params (initRate s) := rfl
  have hclaim : claimAnswer (withErr e s) = claimAnswer s := rfl
  simp only [execInit, hstate, hformat, hrate, hclaim, consumeClaim_withErr]
  rfl

/-- Every arm ends in `fail` or `finish`, which overwrite the outcome, and none reads it before. -/
theorem exec_withErr (c : Instr) (e : ErrCode) (s : State) : exec c (withErr e s) = exec c s := by
  cases c with
  | init => exact execInit_withErr e s
  | write | start | stop | clear => rfl
  | getFreeSpace | getBufferedCount | getStats => rfl

end Sys2Proof.Machine

namespace Sys2Proof.Safety

open Sys2Proof.Machine

/-! ### The writers of the outcome (R103) -/

theorem isCmdWrite_of_issued {p : Config.Params} {i : Input} {c : Instr} (hi : issued p i = some c) :
    isCmdWrite p i = true := by
  obtain ⟨a, n, w, rfl, ha, -⟩ := issued_cases hi
  simp [isCmdWrite, ha]

theorem InputEffect.outcome_eq {i : Input} {s t : State} (hi : InputEffect s i t)
    (hcmd : isCmdWrite s.params i = false) (hreset : i ≠ .reset) :
    t.err = s.err ∧ t.result0 = s.result0 ∧ t.result1 = s.result1 := by
  cases hi with
  | command e r0 r1 hissued => simp [isCmdWrite_of_issued hissued] at hcmd
  | illegal hwrite => simp [hwrite] at hcmd
  | reset => exact absurd rfl hreset
  | serviceRefill | serviceUnderrun => simp
  | disabled | csrRead | operands | hostStore | beat | complete => exact ⟨rfl, rfl, rfl⟩

/-- Settles O45: no command reads the outcome, and no other input but reset writes it. -/
theorem outcomeIsOverwritten : Obligations.OutcomeIsOverwritten := by
  refine ⟨fun c s e => exec_withErr c e s, fun s t h hcmd hreset => ?_⟩
  simpa using (step_effect h).outcome_eq (by simpa using hcmd) hreset

end Sys2Proof.Safety

/-! PROOFS. The order of steps (60_exceptions.md R101). -/

namespace Sys2Proof.Machine

/-! ### BEAT beside a command -/

/-- BEAT moves the transfer on and nothing else. -/
theorem beat_frame (s : State) : beat s = { s with out := (beat s).out, xferPos := (beat s).xferPos } := by
  cases he : beatEnabled s with
  | false => rw [beat_of_not_enabled he]
  | true => rw [beat_of_enabled he]

theorem beat_fail (e : ErrCode) (s : State) : beat (fail e s) = fail e (beat s) := by
  unfold beat
  rw [apply_ite (fail e)]
  rfl

theorem beat_finish (r0 r1 : Word) (s : State) : beat (finish r0 r1 s) = finish r0 r1 (beat s) := by
  unfold beat
  rw [apply_ite (finish r0 r1)]
  rfl

/-- WRITE fills the ring, and BEAT reads a slot. -/
theorem beat_acceptFrames (s : State) : beat (acceptFrames s) = acceptFrames (beat s) := by
  unfold beat
  rw [apply_ite acceptFrames]
  rfl

theorem beat_state (s : State) : (beat s).state = s.state := by rw [beat_frame]

theorem freeSpace_beat (s : State) : freeSpace (beat s) = freeSpace s := by rw [beat_frame]; rfl

theorem writeInvalid_beat (s : State) : writeInvalid (beat s) = writeInvalid s := by rw [beat_frame]; rfl

theorem writeAccepted_beat (s : State) : writeAccepted (beat s) = writeAccepted s := by rw [beat_frame]; rfl

/-- WRITE, in every state. -/
theorem execWrite_beat {s t : State} (h : execWrite s = .next t) : execWrite (beat s) = .next (beat t) := by
  rcases execWrite_next h with ⟨hs, rfl⟩ | ⟨hs, hinvalid, rfl⟩ | ⟨hs, hvalid, rfl⟩
  · rw [beat_fail]
    exact exec_write_of_uninit ((beat_state s).trans hs)
  · rw [beat_finish]
    exact exec_write_of_invalid (by rwa [beat_state]) ((writeInvalid_beat s).trans hinvalid)
  · rw [beat_finish, beat_acceptFrames, ← writeAccepted_beat]
    exact exec_write_of_valid (by rwa [beat_state]) ((writeInvalid_beat s).trans hvalid)

end Sys2Proof.Machine

namespace Sys2Proof.Safety

open Sys2Proof.Machine

/-- Settles O34, command by command: in a streaming block INIT fails and START does nothing, and the others do not
touch the transfer. -/
theorem beatCommutesWithCommands : Obligations.BeatCommutesWithCommands := by
  intro s t c h he hstop hclear hx
  obtain ⟨ha, -, -⟩ := (beatEnabled_iff s).mp he
  have hs := h.streaming_of_armed ha
  have hsb : (beat s).state = .streaming := (beat_state s).trans hs
  cases c with
  | init =>
    rw [exec_init_of_initialised (by simp [hs])] at hx
    cases hx
    rw [beat_fail, exec_init_of_initialised (by simp [hsb])]
  | write => exact execWrite_beat hx
  | start =>
    rw [exec_start_of_streaming hs] at hx
    cases hx
    rw [beat_finish, exec_start_of_streaming hsb]
  | stop => exact absurd rfl hstop
  | clear => exact absurd rfl hclear
  | getFreeSpace =>
    cases hx
    rw [beat_finish, ← freeSpace_beat]
    rfl
  | getBufferedCount | getStats =>
    cases hx
    rw [beat_finish, beat_frame]
    rfl

/-! ### A pending completion -/

/-- R27, R34 (b): a completion is pending only while streaming. -/
theorem Inv.streaming_of_pending {s : State} (h : Inv s) (hp : s.pending = true) : s.state = .streaming := by
  by_contra hne
  obtain ⟨-, hpending, -⟩ := h.halted hne
  simp [hpending] at hp

theorem Inv.serviceEnabled_of_pending {s : State} (h : Inv s) (hp : s.pending = true) : serviceEnabled s = true := by
  have hs := h.streaming_of_pending hp
  exact (serviceEnabled_iff s).mpr ⟨hp, h.irq_enabled (by simp [hs]), hs⟩

/-! ### What SERVICE leaves of a pending completion (R77) -/

/-- SERVICE neither moves the scheduler nor writes an operand. -/
theorem service_frame (s : State) :
    (service s).params = s.params ∧ (service s).state = s.state ∧ (service s).arg0 = s.arg0 ∧
      (service s).arg1 = s.arg1 := by
  unfold service refill
  split
  · split <;> simp
  · exact ⟨rfl, rfl, rfl, rfl⟩

theorem writeInvalid_service (s : State) : writeInvalid (service s) = writeInvalid s := by
  obtain ⟨-, -, harg0, harg1⟩ := service_frame s
  simp only [writeInvalid, writeSource, writeCount, harg0, harg1]

theorem service_active {s : State} (he : serviceEnabled s = true) : (service s).active = otherSlot s.active := by
  rw [service_of_enabled he, arm_active]

theorem service_count {s : State} (he : serviceEnabled s = true) :
    (service s).count = if s.params.q ≤ s.count then s.count - s.params.q else s.count := by
  have hbuffered := congrArg List.length (buffered_refill s.active s)
  rw [apply_ite List.length, List.length_drop, buffered_length, buffered_length] at hbuffered
  rwa [service_of_enabled he, arm_count]

theorem service_underrun {s : State} (he : serviceEnabled s = true) :
    (service s).underrun = if s.params.q ≤ s.count then s.underrun else satInc32 s.underrun := by
  rw [service_of_enabled he, arm_underrun, refill_underrun]

theorem slotFrames_service {s : State} (he : serviceEnabled s = true) :
    slotFrames (service s) s.active =
      if s.params.q ≤ s.count then (buffered s).take s.params.q else List.replicate s.params.q 0 := by
  rw [service_of_enabled he]
  exact slotFrames_refill s.active s

/-! ### A command and a SERVICE, in either order -/

/-- The state with other inputs to come. -/
def withInputs (inputs : List Input) (s : State) : State := { s with inputs := inputs }

theorem refill_withInputs (i : SlotId) (inputs : List Input) (s : State) :
    refill i (withInputs inputs s) = withInputs inputs (refill i s) := by
  unfold refill
  rw [apply_ite (withInputs inputs)]
  cases i <;> rfl

/-- SERVICE does not read the inputs to come. -/
theorem service_withInputs (inputs : List Input) (s : State) :
    service (withInputs inputs s) = withInputs inputs (service s) := by
  have hactive : (withInputs inputs s).active = s.active := rfl
  unfold service
  rw [hactive, refill_withInputs, apply_ite (withInputs inputs)]
  rfl

theorem step_service {s : State} {rest : List Input} (hp : s.params.wf = true) (hin : s.inputs = .service :: rest) :
    step s = .next (withInputs rest (service s)) := by
  rw [step_cons hp hin, perform_service, ← service_withInputs]
  rfl

theorem runs_two {s u t : State} (hsu : step s = .next u) (hut : step u = .next t) : runs 2 s = .next t :=
  (runs_succ hsu).trans ((runs_one u).trans hut)

theorem runs_command_service {c : Instr} {s u : State} {rest : List Input} (hp : s.params.wf = true)
    (hin : s.inputs = csrw s.params 0x00 (encode c) :: .service :: rest)
    (hx : exec c (withInputs (.service :: rest) s) = .next u) : runs 2 s = .next (withInputs rest (service u)) := by
  obtain ⟨-, -, -, -, -, hparams, hinputs, -⟩ := commandFrame c _ _ hx
  exact runs_two ((step_csrw_command hp hin).trans hx) (step_service (hparams ▸ hp) hinputs)

theorem runs_service_command {c : Instr} {s t : State} {rest : List Input} (hp : s.params.wf = true)
    (hin : s.inputs = .service :: csrw s.params 0x00 (encode c) :: rest)
    (hx : exec c (withInputs rest (service s)) = .next t) : runs 2 s = .next t := by
  obtain ⟨hparams, -⟩ := service_frame s
  refine runs_two (step_service hp hin) (Eq.trans (step_csrw_command ?_ ?_) hx)
  · exact hparams ▸ hp
  · exact congrArg (fun p => csrw p 0x00 (encode c) :: rest) hparams.symm

/-- Settles O32: after STOP no completion is pending; after SERVICE, STOP meets a re-armed streaming block. -/
theorem stopAndServiceDoNotCommute : Obligations.StopAndServiceDoNotCommute := by
  intro s rest h hp
  have hs := h.streaming_of_pending hp
  have he := h.serviceEnabled_of_pending hp
  refine ⟨fun hin => ?stopFirst, fun hin => ?serviceFirst⟩
  case stopFirst =>
    have hruns := runs_command_service h.params hin (exec_stop_of_streaming hs)
    rw [service_of_not_enabled (by simp [serviceEnabled])] at hruns
    exact ⟨_, hruns, rfl, rfl, rfl, rfl, rfl, rfl⟩
  case serviceFirst =>
    obtain ⟨-, hstate, -⟩ := service_frame s
    have hruns := runs_service_command h.params hin (exec_stop_of_streaming (hstate.trans hs))
    refine ⟨_, hruns, rfl, service_active he, fun hq => ⟨?_, ?_⟩, fun hq => ⟨?_, ?_⟩⟩
    · exact (service_count he).trans (if_pos hq)
    · exact (service_underrun he).trans (if_pos hq)
    · exact (service_count he).trans (if_neg (Nat.not_le.mpr hq))
    · exact (service_underrun he).trans (if_neg (Nat.not_le.mpr hq))

/-- The frames a WRITE accepts count for the SERVICE after it, behind the frames of the ring (R68, R77). -/
theorem service_acceptFrames {s : State} {r0 r1 : Word} (h : Inv s) (he : serviceEnabled s = true)
    (hge : s.params.q ≤ s.count + writeAccepted s) :
    (service (finish r0 r1 (acceptFrames s))).underrun = s.underrun ∧
      slotFrames (service (finish r0 r1 (acceptFrames s))) s.active =
        (buffered s ++ writeFrames s).take s.params.q := by
  have hstill : serviceEnabled (finish r0 r1 (acceptFrames s)) = true := he
  refine ⟨(service_underrun hstill).trans (if_pos hge), ?_⟩
  rw [← buffered_acceptFrames h.ring_length h.count_le h.widx_eq]
  exact (slotFrames_service hstill).trans (if_pos hge)

/-- Settles O33: SERVICE tests the count, which the WRITE has brought to a quantum or has not yet. -/
theorem writeBeforeServiceAvoidsTheUnderrun : Obligations.WriteBeforeServiceAvoidsTheUnderrun := by
  intro s rest h hp hvalid hlt hge
  have hs : s.state ≠ .uninit := by simp [h.streaming_of_pending hp]
  have he := h.serviceEnabled_of_pending hp
  refine ⟨fun hin => ?writeFirst, fun hin => ?serviceFirst⟩
  case writeFirst =>
    have hruns := runs_command_service h.params hin (exec_write_of_valid hs hvalid)
    exact ⟨_, hruns, service_acceptFrames (h.setInputs _) he hge⟩
  case serviceFirst =>
    have hnot := Nat.not_le.mpr hlt
    obtain ⟨-, hstate, -⟩ := service_frame s
    have hruns := runs_service_command h.params hin
      (exec_write_of_valid (hstate.trans_ne hs) ((writeInvalid_service s).trans hvalid))
    exact ⟨_, hruns, (service_underrun he).trans (if_neg hnot), (slotFrames_service he).trans (if_neg hnot)⟩

end Sys2Proof.Safety

/-! PROOFS. Reset and the hazards of interleaved steps (70_reset_and_hazards.md R110, R114, R116). -/

namespace Sys2Proof.Safety

open Sys2Proof.Machine

/-! ### The reset input (R110) -/

/-- Settles O52: the step is `resetBlock` on what taking the input left, and RING and SLOT are drawn to size. -/
theorem resetInputEffect : Obligations.ResetInputEffect := by
  intro s rest hp hin
  have hstep : step s = .next (resetBlock { s with inputs := rest }) := step_cons hp hin
  refine ⟨_, hstep, ?_⟩
  simp

/-! ### STOP while slot 1 is read, then START (R114) -/

/-- STOP halts a streaming block, and what a START would arm, slot 1 and OUT stay as they are (R73). -/
theorem step_stop_of_streaming {s : State} {rest : List Input} (h : Inv s) (hs : s.state = .streaming)
    (hin : s.inputs = asmStop s.params ++ rest) :
    ∃ u, step s = .next u ∧ Inv u ∧ u.state = .stopped ∧ u.inputs = rest ∧ u.params = s.params ∧
      u.out = s.out ∧ firstQuantum u = firstQuantum s ∧ u.slot1 = s.slot1 := by
  have hstep : step s = .next (finish 0 0 (stopBody { s with inputs := rest })) :=
    (step_csrw_command h.params hin).trans (exec_stop_of_streaming hs)
  exact ⟨_, hstep, stepKeepsTheInvariant _ _ h hstep, rfl, rfl, rfl, rfl, rfl, rfl⟩

/-- The first two quanta of an episode are `F0` and slot 1 as START found it (R81). -/
theorem flatMap_episodeQuantum_two (s : State) :
    (List.range 2).flatMap (episodeQuantum s) = firstQuantum s ++ s.slot1 := by
  simp [List.range_succ, episodeQuantum_zero, episodeQuantum_one]

/-- Settles O30: STOP leaves the ring and slot 1, which the episode after it puts out as its second quantum. -/
theorem stopThenStartReplaysSlotOne : Obligations.StopThenStartReplaysSlotOne := by
  intro s rest h hs hactive hin
  have hsplit : s.inputs = asmStop s.params ++ (asmStart s.params ++ asmQuanta s.params 2 ++ rest) := by
    simp only [hin, List.append_assoc]
  obtain ⟨u, hstop, hu, hstopped, hinputs, hparams, hout, hfirst, hslot⟩ := step_stop_of_streaming h hs hsplit
  obtain ⟨t, hruns, he, -⟩ := runs_episode hu (.inr hstopped) (by rw [hinputs, hparams])
  have hsteps : 2 + 2 * (s.params.q + 2) = 1 + 2 * (s.params.q + 2) + 1 := by omega
  refine ⟨t, ?_, ?_⟩
  · rw [hsteps, runs_succ hstop, ← hparams, hruns]
  · rw [he.out, flatMap_episodeQuantum_two, hout, hfirst, hslot, hactive, List.append_assoc]
    rfl

/-! ### The buffered count between two WRITEs (R116) -/

/-- No command but WRITE raises the buffered count. -/
theorem CommandEffect.count_le {c : Instr} {s u : State} (hc : CommandEffect c s u) (hw : c ≠ .write) :
    u.count ≤ s.count := by
  cases hc with
  | unchanged => exact le_rfl
  | claimRefused => exact (consumeClaim_count s).le
  | acceptFrames => exact absurd rfl hw
  | startStreaming => exact Nat.sub_le _ _
  | stopBody => exact le_rfl
  | initCommit | clearStreaming | clearHalted => exact Nat.zero_le _

/-- Nor does any other input: SERVICE only drains, and reset empties the ring. -/
theorem InputEffect.count_le {i : Input} {s t : State} (hi : InputEffect s i t)
    (hw : issued s.params i ≠ some .write) : t.count ≤ s.count := by
  cases hi with
  | command e r0 r1 hissued hc => exact hc.count_le (by rintro rfl; exact hw hissued)
  | serviceRefill => simp
  | serviceUnderrun => simp
  | reset => exact Nat.zero_le _
  | disabled | illegal | csrRead | operands | hostStore | beat | complete => exact le_rfl

theorem step_count_le {s t : State} (hs : step s = .next t) (hw : issued s.params (nextInput s) ≠ some .write) :
    t.count ≤ s.count := by
  have hle := (step_effect hs).count_le (by rwa [consumeInput_params])
  rwa [consumeInput_count] at hle

theorem step_params_eq {s t : State} (hs : step s = .next t) : t.params = s.params := by
  obtain ⟨-, hparams⟩ := (step_effect hs).environment
  rwa [consumeInput_params] at hparams

theorem NoWrite.params_eq {s t : State} (h : NoWrite s t) : t.params = s.params := by
  induction h with
  | refl => rfl
  | step _ hs _ ih => exact (step_params_eq hs).trans ih

theorem NoWrite.count_le {s t : State} (h : NoWrite s t) : t.count ≤ s.count := by
  induction h with
  | refl => exact le_rfl
  | step _ hs hw ih => exact (step_count_le hs hw).trans ih

theorem NoWrite.freeSpace_le {s t : State} (h : NoWrite s t) : freeSpace s ≤ freeSpace t := by
  rw [freeSpace, freeSpace, h.params_eq]
  exact Nat.sub_le_sub_left h.count_le _

/-- A WRITE within the free space takes every frame and does not overrun (R67, R68). -/
theorem exec_write_of_fits {s : State} (hs : s.state ≠ .uninit) (hvalid : writeInvalid s = false)
    (hfits : writeCount s ≤ freeSpace s) :
    ∃ u, exec .write s = .next u ∧ u.overrun = s.overrun ∧ u.result0 = s.arg0 := by
  have haccepted : writeAccepted s = writeCount s := Nat.min_eq_left hfits
  refine ⟨_, exec_write_of_valid hs hvalid, if_neg ?_, ?_⟩
  · exact haccepted.not_lt
  · rw [finish_result0, haccepted, countWord, BitVec.ofNat_toNat, BitVec.setWidth_eq]

/-- Settles O16, by induction on the steps: no one of them but a WRITE raises the count, so the later free space still
holds what the earlier one did. -/
theorem snapshotsBoundLaterCounts : Obligations.SnapshotsBoundLaterCounts := by
  intro s t _ h
  refine ⟨h.freeSpace_le, h.count_le, fun hs hvalid hle => ?_⟩
  exact exec_write_of_fits hs hvalid (hle.trans h.freeSpace_le)

end Sys2Proof.Safety
